-- ==== Sys2Proof/Word.lean ====
section
/-! DEFINITION. The word types of the avr_3to1 CORE. Bit 0 is the least significant bit of every vector and every
number is unsigned (R7). -/

namespace Sys2Proof

/-- A raw sample: "8-bit unsigned magnitude" (R6 `SAMPLE_W`, R54). -/
abbrev Byte := BitVec 8

/-- A 3-bit state code, `STATE_W = 3` (R6, R45). The LED patterns are three bits as well, one per LED (R50). -/
abbrev Code := BitVec 3

/-- The 11-bit event word `(rst, sample_valid, refresh_tick, sample)` of one cycle (R52). -/
abbrev EventWord := BitVec 11

end Sys2Proof
end

