-- ==== Sys2Proof/Syntax.lean ====
section
/-! DEFINITION. The syntax of the block: the eight ButtonState symbols, the formats of the operation table, one
constructor of `Instr` per row of spec/opcode_table.json, and what the agents present to the block in a step. -/

namespace Sys2Proof

/-- The eight ButtonState symbols in the short names of R45. -/
inductive ButtonState where
  | none | b1 | b2 | b12 | b3 | b13 | b23 | b123
  deriving DecidableEq, Repr, Inhabited

/-- The 3-bit code of a symbol: bit 0 is B1, bit 1 is B2, bit 2 is B3 (R45). -/
def ButtonState.code : ButtonState → Code
  | .none => 0b000#3
  | .b1 => 0b001#3
  | .b2 => 0b010#3
  | .b12 => 0b011#3
  | .b3 => 0b100#3
  | .b13 => 0b101#3
  | .b23 => 0b110#3
  | .b123 => 0b111#3

/-- The formats of spec/opcode_table.json. Each format has wires of its own in the block, so the words of two formats
may be equal: the format is not a bit of the word (log entry 12). -/
inductive Format where
  /-- the event word of a cycle, R52 -/
  | event
  /-- the operand word of CLASSIFY, R65 -/
  | classify
  /-- the operand word of ENCODE, R75 -/
  | encode
  /-- the level SYNC captures, R112 -/
  | sync
  /-- the ENVIRONMENT's write, R100 -/
  | envport
  /-- a state code, R45 -/
  | stateCode
  /-- the comparator vector `c[7:0]`, R59 -/
  | comparatorVector
  /-- an entry of the LED look-up table, R50 -/
  | ledLut
  /-- an entry of the classification table, R46 -/
  | thresholdEntry
  deriving DecidableEq, Repr, Inhabited

/-- One constructor per row of spec/opcode_table.json, in the table's order. Bits that a row does not test are
operands, so that no bit of a word is lost (log entry 21). The port operands of ENCODE and ENVPORT are natural numbers
because `PORT_W` is a parameter (log entry 17). -/
inductive Instr where
  /-- `1vtssssssss`, R145 -/
  | reset (v t : Bool) (s : Byte)
  /-- `000ssssssss`, R101 -/
  | idle (s : Byte)
  /-- `001ssssssss`, R95 -/
  | refresh (s : Byte)
  /-- `010ssssssss`, R85 -/
  | sample (s : Byte)
  /-- `011ssssssss`, R117 -/
  | sampleRefresh (s : Byte)
  /-- the function of R65 on the sample `s` -/
  | classify (s : Byte)
  /-- the function of R75 on the state code `q` and the current port `c` -/
  | encode (q : Code) (c : Nat)
  /-- the front end's step, `a` the captured level, R112 -/
  | sync (a : Bool)
  /-- the ENVIRONMENT's write of `e`, R100 -/
  | envport (e : Nat)
  /-- the eight state codes, R45 -/
  | stateNone | stateB1 | stateB2 | stateB12 | stateB3 | stateB13 | stateB23 | stateB123
  /-- the rows of the priority encoder, `x` the bits above the lowest set bit, R59 -/
  | penc0 (x : BitVec 7)
  | penc1 (x : BitVec 6)
  | penc2 (x : BitVec 5)
  | penc3 (x : BitVec 4)
  | penc4 (x : BitVec 3)
  | penc5 (x : BitVec 2)
  | penc6 (x : BitVec 1)
  | penc7
  /-- the entries of the LED look-up table, R50 -/
  | ledLutNone | ledLutB1 | ledLutB2 | ledLutB12 | ledLutB3 | ledLutB13 | ledLutB23 | ledLutB123
  /-- the entries of the classification table, R49 -/
  | tableD0 | tableD1 | tableD2 | tableD3 | tableD4 | tableD5 | tableD6
  deriving DecidableEq, Repr

/-- The level of `adc_done` at a clock edge: steady through the set-up and hold window, or changing inside it (R115). -/
inductive FlagLevel where
  | low | high | changing
  deriving DecidableEq, Repr, Inhabited

/-- What the bus `adc_data` carries in a cycle: a steady byte, or, when the obligation of R154 is broken, bits that may
be the old conversion's, the new one's or unsettled. -/
inductive BusValue where
  | steady (v : Byte)
  | unsettled
  deriving DecidableEq, Repr, Inhabited

/-- The inputs of one clock cycle (R52, R112, R100, R104), from the agents of R9: `sample_valid` is not among them, the
block makes it from `adc_done` (R113). -/
structure CycleInput where
  /-- the ENVIRONMENT's synchronous reset -/
  rst : Bool
  /-- the TICKER's tick -/
  refreshTick : Bool
  /-- the SAMPLER's conversion-complete flag at the edge that ends the cycle -/
  adcDone : FlagLevel
  /-- the SAMPLER's data bus during the cycle -/
  adcData : BusValue
  /-- the ENVIRONMENT asserts `env_we` -/
  envWe : Bool
  /-- `env_data`; only its `PORT_W` low bits exist -/
  envData : Nat
  /-- the DEBUG SINK takes a strobe of this cycle (it may drop it, R104) -/
  sinkTakes : Bool
  deriving DecidableEq, Repr, Inhabited

/-- One line of a trace in the notation of R57: an event word, and `some e` for `, ENVPORT e`. -/
structure TraceLine where
  word : EventWord
  env : Option Nat
  deriving DecidableEq, Repr, Inhabited

/-- What one step of the model reads (log entries 5, 13, 14). -/
inductive Stimulus where
  /-- one clock cycle of the whole block, front end included -/
  | cycle (c : CycleInput)
  /-- one clock cycle at the architectural level of R57, the front end abstracted away as R118 allows -/
  | line (l : TraceLine)
  /-- one word of the operation table put on the wires of its format, by itself -/
  | word (f : Format) (bits : Nat)
  deriving DecidableEq, Repr, Inhabited

end Sys2Proof
end

