-- ==== Sys2Proof/Config.lean ====
section
/-! DEFINITION. The implementation parameters of R6 as one configuration record, the spec's default configuration, and
the free values of the model. -/

namespace Sys2Proof

/-- The parameters of R6 that the spec leaves to the implementation. The others are fixed by the spec and stand in the
types: `SAMPLE_W = 8`, `N_STATES = 8`, `N_ENTRIES = 7`, `N_LED = 3`, `STATE_W = 3`, `S_DEFAULT = NONE` and
`SYNC_STAGES = 2`. No rule depends on `REFRESH_INTERVAL` (R97). -/
structure Config where
  /-- `T[0..6]`, the upper bounds of the classification table (R46, R47) -/
  bounds : Vector Byte 7
  /-- `S[0..6]`, the states of its entries (R46, R48) -/
  states : Vector ButtonState 7
  /-- `LED_LUT[0..7]`, indexed by state code (R50) -/
  ledLut : Vector Code 8
  /-- `LED_ACTIVE_LOW` (R77) -/
  ledActiveLow : Bool
  /-- `PORT_W` (R51) -/
  portW : Nat
  /-- `LED_PIN[0..2]` (R51) -/
  ledPin : Vector Nat 3
  /-- `K`, the throttle factor (R87) -/
  throttle : Nat
  deriving DecidableEq, Repr

/-- `T[i]`. -/
def Config.bound (c : Config) (i : Fin 7) : Byte := c.bounds.get i

/-- `S[i]`. -/
def Config.entryState (c : Config) (i : Fin 7) : ButtonState := c.states.get i

/-- `LED_LUT[q]`: bit `k` is 1 when LED `k+1` is lit in the state of code `q` (R50). -/
def Config.lut (c : Config) (q : Code) : Code := c.ledLut.get q.toFin

/-- `LED_PIN[k]`. -/
def Config.pin (c : Config) (k : Fin 3) : Nat := c.ledPin.get k

/-- `CNT_W = ceil(log2 K)`, 0 when `K = 1` (R6, R13). -/
def Config.cntW (c : Config) : Nat := Nat.clog 2 c.throttle

/-- The default configuration of the spec: `TABLE_D` (R49), `LED_LUT[s] = s` (R50), `PORT_W = 8` and `LED_PIN = (0, 1, 2)`
(R51). DESIGN CHOICE: `K = 4` and `LED_ACTIVE_LOW = false`, which the spec leaves OPEN (log entry 2, unsafe for a
statement that rests on them). -/
def Config.default : Config where
  bounds := #v[150#8, 163#8, 175#8, 185#8, 205#8, 222#8, 240#8]
  states := #v[.b123, .b12, .b13, .b1, .b23, .b2, .b3]
  ledLut := #v[0#3, 1#3, 2#3, 3#3, 4#3, 5#3, 6#3, 7#3]
  ledActiveLow := false
  portW := 8
  ledPin := #v[0, 1, 2]
  throttle := 4

/-- Free value: the level the first synchroniser flop takes when `adc_done` changes inside the window, "a fresh draw each
time" (R115, U17; log entry 6, safe). -/
opaque Config.captureDraw : Nat → Bool

/-- Free value: the byte read from `adc_data` when it is not held steady, "any 8-bit value" (R154, U18; log entry 7,
safe). -/
opaque Config.sampleDraw : Nat → Byte

/-- Free value: the inputs of a cycle for which nothing is scheduled; the agents of R9 choose them freely (U9, U10; log
entry 5, safe). -/
opaque Config.freeCycle : Nat → CycleInput

end Sys2Proof
end

