-- ==== Sys2Proof/WellFormed.lean ====
section
/-! DEFINITION. Well-formed configurations (R47, R48, R51, R55), refused by name "when the model is built", and
well-formed instructions (operands that fit their format). -/

namespace Sys2Proof

/-- R47: strictly ascending bounds, the first at least 1. "At most 255" is in the type. -/
abbrev Config.TableAscending (c : Config) : Prop :=
  1 ≤ (c.bound 0).toNat ∧ ∀ i : Fin 6, (c.bound i.castSucc).toNat < (c.bound i.succ).toNat

/-- R48: the entries' states are the seven states other than NONE, each once (seven entries, none of them NONE, no two
alike). -/
abbrev Config.StatesCovered (c : Config) : Prop :=
  (∀ i, c.entryState i ≠ .none) ∧ ∀ i j, c.entryState i = c.entryState j → i = j

/-- R51 and R6: three distinct pins below `PORT_W`. -/
abbrev Config.LedPinsOk (c : Config) : Prop :=
  (∀ k, c.pin k < c.portW) ∧ ∀ j k, c.pin j = c.pin k → j = k

/-- R87: `K >= 1`. -/
abbrev Config.ThrottleOk (c : Config) : Prop := 1 ≤ c.throttle

/-- A configuration that R55 does not refuse. -/
abbrev Config.WellFormed (c : Config) : Prop :=
  c.TableAscending ∧ c.StatesCovered ∧ c.LedPinsOk ∧ c.ThrottleOk

/-- The four refusals of R55. They are made when the model is built, never by a step. -/
inductive ConfigRefusal where
  /-- `TableNotAscending` -/
  | tableNotAscending
  /-- `StatesNotCovered` -/
  | statesNotCovered
  /-- `BadLedPins` -/
  | badLedPins
  /-- `BadThrottle` -/
  | badThrottle
  deriving DecidableEq, Repr

/-- The build-time check of R55, in the order of its table (DESIGN CHOICE for a configuration that fails two checks, safe:
log entry 18). -/
def Config.check (c : Config) : Option ConfigRefusal :=
  if ¬ c.TableAscending then some .tableNotAscending
  else if ¬ c.StatesCovered then some .statesNotCovered
  else if ¬ c.LedPinsOk then some .badLedPins
  else if ¬ c.ThrottleOk then some .badThrottle
  else none

/-- The operands that are no bit vectors fit their bus, `PORT_W` bits wide (R75, R100). -/
def Instr.wellFormed (portW : Nat) : Instr → Bool
  | .encode _ c => decide (c < 2 ^ portW)
  | .envport e => decide (e < 2 ^ portW)
  | .reset _ _ _ | .idle _ | .refresh _ | .sample _ | .sampleRefresh _ => true
  | .classify _ | .sync _ => true
  | .stateNone | .stateB1 | .stateB2 | .stateB12 | .stateB3 | .stateB13 | .stateB23 | .stateB123 => true
  | .penc0 _ | .penc1 _ | .penc2 _ | .penc3 _ | .penc4 _ | .penc5 _ | .penc6 _ | .penc7 => true
  | .ledLutNone | .ledLutB1 | .ledLutB2 | .ledLutB12 | .ledLutB3 | .ledLutB13 | .ledLutB23 | .ledLutB123 => true
  | .tableD0 | .tableD1 | .tableD2 | .tableD3 | .tableD4 | .tableD5 | .tableD6 => true

end Sys2Proof
end

