-- ==== Sys2Proof/Decode.lean ====
section
/-! DEFINITION. Decoding the words of spec/opcode_table.json, format by format (R45, R46, R50, R52, R53, R59, R65, R75,
R100, R112), the encoder written from the same tables, and the host's `decodeTableWord`. -/

namespace Sys2Proof

/-- Why a number is no word of a format. -/
inductive DecodeError where
  /-- it has bits above the format's width -/
  | tooWide
  /-- an ENVPORT word with `env_we = 0`: no write, so no operation (R100) -/
  | noEnvWrite
  /-- the comparator vector 0, in no row of R59: `c[7]` is tied to 1 -/
  | zeroComparatorVector
  /-- an 11-bit word that is none of the seven rows of `TABLE_D` (R49) -/
  | noTableRow
  deriving DecidableEq, Repr

/-- The width of a word of each format; two of them depend on `PORT_W` (spec/opcode_table.json). -/
def Format.width (portW : Nat) : Format → Nat
  | .event => 11
  | .classify => 8
  | .encode => 3 + portW
  | .sync => 1
  | .envport => 1 + portW
  | .stateCode => 3
  | .comparatorVector => 8
  | .ledLut => 3
  | .thresholdEntry => 11

/-- The decode of R53: the three control bits `W[10:8]` select one of five events, `rst` first. Complete: there is no
other word. -/
def decodeEvent (w : EventWord) : Instr :=
  match w[10], w[9], w[8] with
  | true, v, t => .reset v t (w.extractLsb' 0 8)
  | false, false, false => .idle (w.extractLsb' 0 8)
  | false, false, true => .refresh (w.extractLsb' 0 8)
  | false, true, false => .sample (w.extractLsb' 0 8)
  | false, true, true => .sampleRefresh (w.extractLsb' 0 8)

/-- The rows of R45. -/
def decodeStateCode (q : Code) : Instr :=
  match q.toNat with
  | 0 => .stateNone
  | 1 => .stateB1
  | 2 => .stateB2
  | 3 => .stateB12
  | 4 => .stateB3
  | 5 => .stateB13
  | 6 => .stateB23
  | _ => .stateB123

/-- The rows of R50: under the default table the entry of each state is its own code, so the word names its entry. -/
def decodeLedLut (q : Code) : Instr :=
  match q.toNat with
  | 0 => .ledLutNone
  | 1 => .ledLutB1
  | 2 => .ledLutB2
  | 3 => .ledLutB12
  | 4 => .ledLutB3
  | 5 => .ledLutB13
  | 6 => .ledLutB23
  | _ => .ledLutB123

/-- The rows of R59, by the lowest set bit of the vector. -/
def decodeComparatorVector (v : Byte) : Except DecodeError Instr :=
  if v[0] then .ok (.penc0 (v.extractLsb' 1 7))
  else if v[1] then .ok (.penc1 (v.extractLsb' 2 6))
  else if v[2] then .ok (.penc2 (v.extractLsb' 3 5))
  else if v[3] then .ok (.penc3 (v.extractLsb' 4 4))
  else if v[4] then .ok (.penc4 (v.extractLsb' 5 3))
  else if v[5] then .ok (.penc5 (v.extractLsb' 6 2))
  else if v[6] then .ok (.penc6 (v.extractLsb' 7 1))
  else if v[7] then .ok .penc7
  else .error .zeroComparatorVector

/-- The seven rows of `TABLE_D` as the words `(T[i], S[i])` of R46. -/
def decodeThresholdEntry (w : Nat) : Except DecodeError Instr :=
  if w = 0x4b7 then .ok .tableD0
  else if w = 0x51b then .ok .tableD1
  else if w = 0x57d then .ok .tableD2
  else if w = 0x5c9 then .ok .tableD3
  else if w = 0x66e then .ok .tableD4
  else if w = 0x6f2 then .ok .tableD5
  else if w = 0x784 then .ok .tableD6
  else .error .noTableRow

/-- The instruction that the number `w` is on the wires of format `f`: total, refusing by name. -/
def decodeWord (portW : Nat) (f : Format) (w : Nat) : Except DecodeError Instr :=
  if 2 ^ f.width portW ≤ w then .error .tooWide
  else
    match f with
    | .event => .ok (decodeEvent (BitVec.ofNat 11 w))
    | .classify => .ok (.classify (BitVec.ofNat 8 w))
    | .encode => .ok (.encode (BitVec.ofNat 3 (w / 2 ^ portW)) (w % 2 ^ portW))
    | .sync => .ok (.sync (decide (w = 1)))
    | .envport => if w < 2 ^ portW then .error .noEnvWrite else .ok (.envport (w - 2 ^ portW))
    | .stateCode => .ok (decodeStateCode (BitVec.ofNat 3 w))
    | .comparatorVector => decodeComparatorVector (BitVec.ofNat 8 w)
    | .ledLut => .ok (decodeLedLut (BitVec.ofNat 3 w))
    | .thresholdEntry => decodeThresholdEntry w

/-- A word of the table and the wires it stands on. -/
structure TableWord where
  format : Format
  bits : Nat
  deriving DecidableEq, Repr

/-- The event word `(rst, sample_valid, refresh_tick, sample)` of R52. -/
def eventWordOf (rst valid tick : Bool) (s : Byte) : EventWord :=
  BitVec.ofBool rst ++ BitVec.ofBool valid ++ BitVec.ofBool tick ++ s

/-- The word of each instruction, from the encodings of R45, R46 with R49, R50, R53, R59 and the table's operand words. -/
def encodeWord (portW : Nat) : Instr → TableWord
  | .reset v t s => ⟨.event, (eventWordOf true v t s).toNat⟩
  | .idle s => ⟨.event, (eventWordOf false false false s).toNat⟩
  | .refresh s => ⟨.event, (eventWordOf false false true s).toNat⟩
  | .sample s => ⟨.event, (eventWordOf false true false s).toNat⟩
  | .sampleRefresh s => ⟨.event, (eventWordOf false true true s).toNat⟩
  | .classify s => ⟨.classify, s.toNat⟩
  | .encode q c => ⟨.encode, q.toNat * 2 ^ portW + c⟩
  | .sync a => ⟨.sync, a.toNat⟩
  | .envport e => ⟨.envport, 2 ^ portW + e⟩
  | .stateNone => ⟨.stateCode, 0b000⟩
  | .stateB1 => ⟨.stateCode, 0b001⟩
  | .stateB2 => ⟨.stateCode, 0b010⟩
  | .stateB12 => ⟨.stateCode, 0b011⟩
  | .stateB3 => ⟨.stateCode, 0b100⟩
  | .stateB13 => ⟨.stateCode, 0b101⟩
  | .stateB23 => ⟨.stateCode, 0b110⟩
  | .stateB123 => ⟨.stateCode, 0b111⟩
  | .penc0 x => ⟨.comparatorVector, (x ++ 0b1#1).toNat⟩
  | .penc1 x => ⟨.comparatorVector, (x ++ 0b10#2).toNat⟩
  | .penc2 x => ⟨.comparatorVector, (x ++ 0b100#3).toNat⟩
  | .penc3 x => ⟨.comparatorVector, (x ++ 0b1000#4).toNat⟩
  | .penc4 x => ⟨.comparatorVector, (x ++ 0b10000#5).toNat⟩
  | .penc5 x => ⟨.comparatorVector, (x ++ 0b100000#6).toNat⟩
  | .penc6 x => ⟨.comparatorVector, (x ++ 0b1000000#7).toNat⟩
  | .penc7 => ⟨.comparatorVector, 0b10000000⟩
  | .ledLutNone => ⟨.ledLut, 0b000⟩
  | .ledLutB1 => ⟨.ledLut, 0b001⟩
  | .ledLutB2 => ⟨.ledLut, 0b010⟩
  | .ledLutB12 => ⟨.ledLut, 0b011⟩
  | .ledLutB3 => ⟨.ledLut, 0b100⟩
  | .ledLutB13 => ⟨.ledLut, 0b101⟩
  | .ledLutB23 => ⟨.ledLut, 0b110⟩
  | .ledLutB123 => ⟨.ledLut, 0b111⟩
  | .tableD0 => ⟨.thresholdEntry, 0x4b7⟩
  | .tableD1 => ⟨.thresholdEntry, 0x51b⟩
  | .tableD2 => ⟨.thresholdEntry, 0x57d⟩
  | .tableD3 => ⟨.thresholdEntry, 0x5c9⟩
  | .tableD4 => ⟨.thresholdEntry, 0x66e⟩
  | .tableD5 => ⟨.thresholdEntry, 0x6f2⟩
  | .tableD6 => ⟨.thresholdEntry, 0x784⟩

/-- The wires a bare table word is taken to stand on, since spec/opcode_table.json numbers the words of different wires
alike. DESIGN CHOICE (log entry 12): the width decides where it can; among rows of one width in bytes the row that fixes
the most bits of the word, then the first in the table. -/
def formatOfTableWord (nbits w : Nat) : Format :=
  match nbits with
  | 1 => .sync
  | 3 => .stateCode
  | 8 => if w < 8 then .stateCode else .comparatorVector
  | 9 => .envport
  | _ =>
    match decodeThresholdEntry w with
    | .ok _ => .thresholdEntry
    | .error _ => .event

/-- The host's question: the instruction this decoder reads from a table word of `nbits` bits, at the default `PORT_W`. -/
def decodeTableWord (nbits w : Nat) : Option Instr :=
  match decodeWord Config.default.portW (formatOfTableWord nbits w) w with
  | .ok i => some i
  | .error _ => none

end Sys2Proof
end

