-- ==== Sys2Proof/Machine/State.lean ====
section
/-! DEFINITION. The state of the machine as plain data: the six registers of R10, the outputs and wires of the cycle just
taken, the constant configuration, and the scheduled inputs; the ways a step can stop; the state after reset. -/

namespace Sys2Proof.Machine

/-- The debug tap's outputs in the cycle just taken (R103). Not registers of the block: no operation reads them (log
entry 9). -/
structure Tap where
  /-- `dbg_valid` -/
  valid : Bool
  /-- `dbg_sample`, meaningful only when `valid` -/
  sample : Byte
  deriving DecidableEq, Repr

/-- The combinational values the last operation evaluated (R17, R21), `none` where it evaluated none. Not registers of
the block: no operation reads them (log entry 9). `w` is `PORT_W`. -/
structure Wires (w : Nat) where
  /-- the comparator vector `c[7:0]` (R66) -/
  bank : Option Byte
  /-- the bucket index `b` of the priority encoder (R67) -/
  bucket : Option Code
  /-- the ButtonState selected (R67) or named by a state code (R45) -/
  symbol : Option ButtonState
  /-- the logical pattern `lit[2:0]` (R76) -/
  lit : Option Code
  /-- the levels `drv[2:0]` put on the LED pins (R77) -/
  drv : Option Code
  /-- the result of ENCODE (R78) -/
  newPort : Option (BitVec w)
  /-- a table entry `(T[i], S[i])` (R46) -/
  entry : Option EventWord
  deriving DecidableEq, Repr

/-- No wire evaluated. -/
def Wires.off (w : Nat) : Wires w :=
  { bank := none, bucket := none, symbol := none, lit := none, drv := none, newPort := none, entry := none }

/-- Everything the spec gives the machine (INVENTORY.md, '## State'). -/
structure State where
  /-- the constant parameters (R6, R41); no step changes them (log entry 1) -/
  cfg : Config
  /-- `STATE`, 3 bits (R11) -/
  state : Code
  /-- `CNT`, `CNT_W` bits, in `0 .. K-1` (R9 item 2, R13; log entry 19) -/
  cnt : BitVec cfg.cntW
  /-- `PORT`, `PORT_W` bits (R14) -/
  port : BitVec cfg.portW
  /-- `SY1`, the first synchroniser flop (R22) -/
  sy1 : Bool
  /-- `SY2`, the second synchroniser flop (R22) -/
  sy2 : Bool
  /-- `SY3`, the edge detector's history flop (R22) -/
  sy3 : Bool
  /-- the tap's outputs of the last event (R103) -/
  tap : Tap
  /-- the wires of the last operation (R17) -/
  wires : Wires cfg.portW
  /-- the inputs of the coming steps (log entry 5) -/
  inputs : List Stimulus
  /-- the samples the DEBUG SINK has taken, oldest first (R104; log entry 8) -/
  sink : List Byte
  /-- the number of steps taken, the index of the free values (log entry 24) -/
  cycle : Nat
  deriving DecidableEq, Repr

/-- The block raises no exception and has no state in which it stops (R125): there is no fault (log entry 22). -/
inductive Fault where
  deriving DecidableEq, Repr

/-- Why an instruction gives no next state. "A model's step function for the CORE never returns a fault and never a
refusal" (R125): no arm of `exec` is refused and `step` refuses nothing. -/
inductive Refusal where
  /-- An instruction that has no meaning yet, raised by `exec`'s arm of that name, of which there is none; safe. -/
  | notModelled (mnemonic : String)
  deriving DecidableEq, Repr

/-- The machine right after reset (R23, R146) in the default configuration: STATE = NONE, CNT = 0, the flops 0, the LED
bits unlit. DESIGN CHOICE: the non-LED bits of PORT are 0, the spec leaves them unspecified (log entry 3, unsafe); K and
LED_ACTIVE_LOW as in `Config.default` (log entry 2). `powerOn` is the same state for any configuration and any non-LED
bits. -/
def State.reset : State where
  cfg := Config.default
  state := 0b000#3
  cnt := 0
  port := 0x00#8
  sy1 := false
  sy2 := false
  sy3 := false
  tap := { valid := false, sample := 0x00#8 }
  wires := Wires.off 8
  inputs := []
  sink := []
  cycle := 0

end Sys2Proof.Machine
end

