-- ==== Sys2Proof/Machine/Flags.lean ====
section
/-! DEFINITION. The block stores no flag; these are the predicates of R17 and R113, wires of one cycle. -/

namespace Sys2Proof.Machine

/-- `c[i] = (sample < T[i])` for one of the seven magnitude comparators: unsigned, strict (R66). -/
def comparator (c : Config) (x : Byte) (i : Fin 7) : Bool := x.ult (c.bound i)

/-- The comparator vector `c[7:0]`, `c[7]` tied to 1 (R59, R66). -/
def comparatorBank (c : Config) (x : Byte) : Byte :=
  1#1 ++ BitVec.ofBool (comparator c x 6) ++ BitVec.ofBool (comparator c x 5) ++ BitVec.ofBool (comparator c x 4)
    ++ BitVec.ofBool (comparator c x 3) ++ BitVec.ofBool (comparator c x 2) ++ BitVec.ofBool (comparator c x 1)
    ++ BitVec.ofBool (comparator c x 0)

/-- `sample_valid = SY2 AND NOT SY3` (R113). -/
def sampleValid (s : State) : Bool := s.sy2 && !s.sy3

/-- The throttle counter stands at its reset value, so a sample taken now is forwarded (R87). -/
def forwards (s : State) : Bool := decide (s.cnt = 0)

end Sys2Proof.Machine
end

