-- ==== Sys2Proof/Machine/Operands.lean ====
section
/-! DEFINITION. Operand assembly: how the inputs of a cycle become the operands of the operations (R52, R54, R100, R114,
R115). -/

namespace Sys2Proof.Machine

/-- `capture(adc_done)` at the edge of step `n`: the level when it is steady, a free draw when it changes inside the
window (R115; log entry 6). -/
def capture (n : Nat) : FlagLevel → Bool
  | .low => false
  | .high => true
  | .changing => Config.captureDraw n

/-- The sample on `adc_data` in the cycle of step `n` (R114): the steady byte, or any byte when the bus is not held
(R154; log entry 7). One value, read by classifier and tap alike (R86). -/
def busSample (n : Nat) : BusValue → Byte
  | .steady v => v
  | .unsettled => Config.sampleDraw n

/-- A port operand as the `PORT_W` bits of its bus (log entry 17). -/
def portBits (c : Config) (e : Nat) : BitVec c.portW := BitVec.ofNat c.portW e

end Sys2Proof.Machine
end

