-- ==== Sys2Proof/Machine/Ops.lean ====
section
/-! DEFINITION. The named operations over the registers that the meanings share. There is no memory (R30) and no exception
to take or return from (R125, R131): neither has an operation here. -/

namespace Sys2Proof.Machine

/-! ### The classifier (40_classifier.md) -/

/-- The priority encoder: the least `i` with `c[i] = 1` (R59, R67). The vector 0 cannot occur, `c[7]` being 1; it gives
7 here (DEDUCED, log entry 16). -/
def priorityEncode (v : Byte) : Code :=
  if v[0] then 0 else if v[1] then 1 else if v[2] then 2 else if v[3] then 3
  else if v[4] then 4 else if v[5] then 5 else if v[6] then 6 else 7

/-- `S[b]` for `b <= 6`, `S_DEFAULT = NONE` for `b = 7` (R67). -/
def selectState (c : Config) (b : Code) : ButtonState :=
  if h : b.toNat < 7 then c.entryState ⟨b.toNat, h⟩ else .none

/-- The bucket index of a sample (R67). -/
def bucketOf (c : Config) (x : Byte) : Code := priorityEncode (comparatorBank c x)

/-- CLASSIFY in its hardware form, bank into encoder into select (R66, R67). -/
def classify (c : Config) (x : Byte) : ButtonState := selectState c (bucketOf c x)

/-- The source's scan: "return the state of the first entry whose upper-bound strictly exceeds `sample`" (R65). -/
def scanTable (x : Byte) : List (Byte × ButtonState) → ButtonState
  | [] => .none
  | (t, q) :: rest => if x.toNat < t.toNat then q else scanTable x rest

/-- CLASSIFY as the scan of the whole table (R65). -/
def classifyScan (c : Config) (x : Byte) : ButtonState := scanTable x (c.bounds.toList.zip c.states.toList)

/-- The ButtonState whose code is `q` (R45). -/
def symbolOf (q : Code) : ButtonState :=
  match q.toNat with
  | 0 => .none
  | 1 => .b1
  | 2 => .b2
  | 3 => .b12
  | 4 => .b3
  | 5 => .b13
  | 6 => .b23
  | _ => .b123

/-- Entry `i` of the classification table as the word `(T[i], S[i])` (R46). -/
def entryWord (c : Config) (i : Fin 7) : EventWord := c.bound i ++ (c.entryState i).code

/-! ### The LED encoder (41_led_encoder.md) -/

/-- `LED_MASK` (R15). -/
def ledMask (c : Config) : BitVec c.portW :=
  (1#c.portW <<< c.pin 0) ||| (1#c.portW <<< c.pin 1) ||| (1#c.portW <<< c.pin 2)

/-- `drv[k] = lit[k] XOR LED_ACTIVE_LOW` (R77). -/
def driveLevels (c : Config) (lit : Code) : Code := if c.ledActiveLow then ~~~lit else lit

/-- One level placed at a pin: `zext(drv[k]) << LED_PIN[k]` (R75). -/
def placed (w : Nat) (level : Bool) (pin : Nat) : BitVec w := (BitVec.ofBool level).setWidth w <<< pin

/-- `pat`, the LED bits of the port for the state of code `q` (R75, R76, R77). -/
def ledPattern (c : Config) (q : Code) : BitVec c.portW :=
  placed c.portW (driveLevels c (c.lut q))[0] (c.pin 0)
    ||| placed c.portW (driveLevels c (c.lut q))[1] (c.pin 1)
    ||| placed c.portW (driveLevels c (c.lut q))[2] (c.pin 2)

/-- ENCODE: mask the LED bits out, OR the pattern in, "restricted to those bits" (R75, R78). -/
def encodePort (c : Config) (q : Code) (cur : BitVec c.portW) : BitVec c.portW :=
  (cur &&& ~~~ledMask c) ||| (ledPattern c q &&& ledMask c)

/-- The ENVIRONMENT's write: the non-LED bits of `e`, the LED bits as they are (R100). -/
def mergeEnv (c : Config) (e cur : BitVec c.portW) : BitVec c.portW :=
  (cur &&& ledMask c) ||| (e &&& ~~~ledMask c)

/-- The level of pin `n`: "The pins carry the value of `PORT` at all times" (R14). There is no pin at or above `PORT_W`. -/
def portBit (s : State) (n : Nat) : Bool := s.port.getLsbD n

/-! ### The throttle counter (42_sampling_handler.md) -/

/-- `(CNT == K - 1) ? 0 : CNT + 1` (R87), on the `CNT_W` bits of the register (R13; log entry 19). -/
def nextCount (c : Config) (n : BitVec c.cntW) : BitVec c.cntW := if n.toNat = c.throttle - 1 then 0 else n + 1

/-! ### Register writes -/

/-- Steps (b) and (c) of SAMPLE: `CNT` advances, `STATE <- classify(x)` (R85, R87, R89). -/
def latchSample (x : Byte) (s : State) : State :=
  { s with state := (classify s.cfg x).code, cnt := nextCount s.cfg s.cnt }

/-- `PORT <- encode(STATE, PORT)` (R95). -/
def refreshPort (s : State) : State :=
  { s with port := encodePort s.cfg s.state s.port }

/-- The register writes of RESET: the LED bits of PORT take the pattern of NONE, the others stay (R145). -/
def clearRegisters (s : State) : State :=
  { s with
    state := ButtonState.none.code
    cnt := 0
    sy1 := false
    sy2 := false
    sy3 := false
    port := encodePort s.cfg ButtonState.none.code s.port }

/-- The SYNC step: all three flops at one edge (R112). -/
def shiftFlops (a : Bool) (s : State) : State :=
  { s with sy1 := a, sy2 := s.sy1, sy3 := s.sy2 }

/-- ENVPORT's write of the non-LED bits of PORT (R100). -/
def writeEnv (e : Nat) (s : State) : State :=
  { s with port := mergeEnv s.cfg (portBits s.cfg e) s.port }

/-! ### Outputs and wires of a cycle -/

/-- The wires after the comparator vector `v` reached the priority encoder and the state select (R66, R67). -/
def classifierWires (c : Config) (v : Byte) (w : Wires c.portW) : Wires c.portW :=
  { w with
    bank := some v
    bucket := some (priorityEncode v)
    symbol := some (selectState c (priorityEncode v)) }

/-- The wires after code `q` selected the LED multiplexers and the result was merged into `cur` (R76, R77, R78). -/
def encoderWires (c : Config) (q : Code) (cur : BitVec c.portW) (w : Wires c.portW) : Wires c.portW :=
  { w with
    lit := some (c.lut q)
    drv := some (driveLevels c (c.lut q))
    newPort := some (encodePort c q cur) }

/-- The outputs and wires of an event (R103; log entry 9). -/
def present (s : State) (t : Tap) (w : Wires s.cfg.portW) : State :=
  { s with tap := t, wires := w }

/-- The wires of an operation that is no event: the tap has no part in it (log entry 10). -/
def evaluate (s : State) (w : Wires s.cfg.portW) : State :=
  { s with wires := w }

/-- The code `q` on the wires of a state code, by itself: the symbol it stands for (R45; log entry 10). -/
def showCode (q : Code) (s : State) : State :=
  evaluate s { Wires.off s.cfg.portW with symbol := some (symbolOf q) }

/-- The comparator vector `v` at the priority encoder, by itself (R59, R67; log entry 10). -/
def showVector (v : Byte) (s : State) : State :=
  evaluate s (classifierWires s.cfg v (Wires.off s.cfg.portW))

/-- The look-up of entry `q` of LED_LUT, by itself (R50, R76; log entries 10, 11). -/
def showLut (q : Code) (s : State) : State :=
  evaluate s { Wires.off s.cfg.portW with lit := some (s.cfg.lut q) }

/-- The look-up of entry `i` of the classification table, by itself (R46; log entries 10, 11). -/
def showEntry (i : Fin 7) (s : State) : State :=
  evaluate s { Wires.off s.cfg.portW with entry := some (entryWord s.cfg i) }

/-! ### Power-on -/

/-- The state at power-on (R23, R146) in any configuration: as after a RESET, the non-LED bits those of `other`, which
the spec leaves unspecified (U16). -/
def powerOn (c : Config) (other : BitVec c.portW) : State where
  cfg := c
  state := ButtonState.none.code
  cnt := 0
  port := encodePort c ButtonState.none.code other
  sy1 := false
  sy2 := false
  sy3 := false
  tap := { valid := false, sample := 0x00#8 }
  wires := Wires.off c.portW
  inputs := []
  sink := []
  cycle := 0

/-- Building the model: an ill-formed configuration is refused by name before any step (R55). -/
def build (c : Config) (other : BitVec c.portW) : Except ConfigRefusal State :=
  match c.check with
  | some r => .error r
  | none => .ok (powerOn c other)

end Sys2Proof.Machine
end

