-- ==== Sys2Proof/Machine/Events.lean ====
section
/-! DEFINITION. The five events of the event word (R53), each one clock cycle of the block less SYNC and ENVPORT, which
the cycle adds (Cycle.lean). Every register on a right-hand side is the value of before the edge (R8). -/

namespace Sys2Proof.Machine

/-- RESET (R145): the registers take their reset values; `dbg_valid = 0`, and a sample or tick of the same cycle is
lost (R129 item 1). `x` is the ignored sample field, which `dbg_sample` still carries (R103). -/
def execReset (_v _t : Bool) (x : Byte) (s : State) : Host.Outcome State Fault Refusal :=
  .next (clearRegisters (present s ⟨false, x⟩
    (encoderWires s.cfg ButtonState.none.code s.port (Wires.off s.cfg.portW))))

/-- IDLE (R101): no register changes; `dbg_valid = 0`. -/
def execIdle (x : Byte) (s : State) : Host.Outcome State Fault Refusal :=
  .next (present s ⟨false, x⟩ (Wires.off s.cfg.portW))

/-- REFRESH (R95): `PORT <- encode(STATE, PORT)`; `dbg_valid = 0`. -/
def execRefresh (x : Byte) (s : State) : Host.Outcome State Fault Refusal :=
  .next (refreshPort (present s ⟨false, x⟩ (encoderWires s.cfg s.state s.port (Wires.off s.cfg.portW))))

/-- SAMPLE (R85): the tap forwards the sample when CNT is 0 on entry, CNT advances, `STATE <- classify(x)`. -/
def execSample (x : Byte) (s : State) : Host.Outcome State Fault Refusal :=
  .next (latchSample x (present s ⟨forwards s, x⟩
    (classifierWires s.cfg (comparatorBank s.cfg x) (Wires.off s.cfg.portW))))

/-- SAMPLE_REFRESH (R117): both, the refresh on the old STATE. -/
def execSampleRefresh (x : Byte) (s : State) : Host.Outcome State Fault Refusal :=
  .next (latchSample x (refreshPort (present s ⟨forwards s, x⟩
    (classifierWires s.cfg (comparatorBank s.cfg x)
      (encoderWires s.cfg s.state s.port (Wires.off s.cfg.portW))))))

end Sys2Proof.Machine
end

