-- ==== Sys2Proof/Machine/FrontEnd.lean ====
section
/-! DEFINITION. The two steps that go with any event in a cycle: SYNC (R112) and ENVPORT (R100). Neither touches the tap
or the wires of the event. -/

namespace Sys2Proof.Machine

/-- SYNC with the captured level `a` (R112). -/
def execSync (a : Bool) (s : State) : Host.Outcome State Fault Refusal :=
  .next (shiftFlops a s)

/-- ENVPORT with `env_data = e` (R100). -/
def execEnvport (e : Nat) (s : State) : Host.Outcome State Fault Refusal :=
  .next (writeEnv e s)

end Sys2Proof.Machine
end

