-- ==== Sys2Proof/Machine/Functions.lean ====
section
/-! DEFINITION. The two pure functions of the operation table, by themselves: combinational, no register read or written
(R65, R75), the result on the wires (log entry 10). -/

namespace Sys2Proof.Machine

/-- CLASSIFY of the sample `x` (R65, R66, R67). -/
def execClassify (x : Byte) (s : State) : Host.Outcome State Fault Refusal :=
  .next (evaluate s (classifierWires s.cfg (comparatorBank s.cfg x) (Wires.off s.cfg.portW)))

/-- ENCODE of the state code `q` and the current port `c` (R75). -/
def execEncode (q : Code) (c : Nat) (s : State) : Host.Outcome State Fault Refusal :=
  .next (evaluate s (encoderWires s.cfg q (portBits s.cfg c) (Wires.off s.cfg.portW)))

end Sys2Proof.Machine
end

