-- ==== Sys2Proof/Machine/PriorityEncoder.lean ====
section
/-! DEFINITION. The eight rows of the priority encoder (R59), each a comparator vector put on the encoder's inputs by
itself: `x` is the untested part of the vector (log entry 10). -/

namespace Sys2Proof.Machine

/-- Row PENC_0: the vector `xxxxxxx1` (R59). -/
def execPenc0 (x : BitVec 7) (s : State) : Host.Outcome State Fault Refusal := .next (showVector (x ++ 0b1#1) s)

/-- Row PENC_1: the vector `xxxxxx10` (R59). -/
def execPenc1 (x : BitVec 6) (s : State) : Host.Outcome State Fault Refusal := .next (showVector (x ++ 0b10#2) s)

/-- Row PENC_2: the vector `xxxxx100` (R59). -/
def execPenc2 (x : BitVec 5) (s : State) : Host.Outcome State Fault Refusal := .next (showVector (x ++ 0b100#3) s)

/-- Row PENC_3: the vector `xxxx1000` (R59). -/
def execPenc3 (x : BitVec 4) (s : State) : Host.Outcome State Fault Refusal := .next (showVector (x ++ 0b1000#4) s)

/-- Row PENC_4: the vector `xxx10000` (R59). -/
def execPenc4 (x : BitVec 3) (s : State) : Host.Outcome State Fault Refusal := .next (showVector (x ++ 0b10000#5) s)

/-- Row PENC_5: the vector `xx100000` (R59). -/
def execPenc5 (x : BitVec 2) (s : State) : Host.Outcome State Fault Refusal := .next (showVector (x ++ 0b100000#6) s)

/-- Row PENC_6: the vector `x1000000` (R59). -/
def execPenc6 (x : BitVec 1) (s : State) : Host.Outcome State Fault Refusal := .next (showVector (x ++ 0b1000000#7) s)

/-- Row PENC_7: the vector `10000000`, the default bucket (R59). -/
def execPenc7 (s : State) : Host.Outcome State Fault Refusal := .next (showVector 0b10000000#8 s)

end Sys2Proof.Machine
end

