-- ==== Sys2Proof/Machine/StateCodes.lean ====
section
/-! DEFINITION. The eight state codes of R45, each by itself on the wires of a state code: it stands for its symbol. STATE
is not written, which only SAMPLE and RESET do (R12; log entry 10). -/

namespace Sys2Proof.Machine

/-- Row STATE_NONE (R45). -/
def execStateNone (s : State) : Host.Outcome State Fault Refusal := .next (showCode 0b000#3 s)

/-- Row STATE_B1 (R45). -/
def execStateB1 (s : State) : Host.Outcome State Fault Refusal := .next (showCode 0b001#3 s)

/-- Row STATE_B2 (R45). -/
def execStateB2 (s : State) : Host.Outcome State Fault Refusal := .next (showCode 0b010#3 s)

/-- Row STATE_B12 (R45). -/
def execStateB12 (s : State) : Host.Outcome State Fault Refusal := .next (showCode 0b011#3 s)

/-- Row STATE_B3 (R45). -/
def execStateB3 (s : State) : Host.Outcome State Fault Refusal := .next (showCode 0b100#3 s)

/-- Row STATE_B13 (R45). -/
def execStateB13 (s : State) : Host.Outcome State Fault Refusal := .next (showCode 0b101#3 s)

/-- Row STATE_B23 (R45). -/
def execStateB23 (s : State) : Host.Outcome State Fault Refusal := .next (showCode 0b110#3 s)

/-- Row STATE_B123 (R45). -/
def execStateB123 (s : State) : Host.Outcome State Fault Refusal := .next (showCode 0b111#3 s)

end Sys2Proof.Machine
end

