-- ==== Sys2Proof/Machine/Tables.lean ====
section
/-! DEFINITION. The rows of the two constant tables, each the look-up of its entry by itself (R46, R49, R50). The tables
are parameters: the entry read is the configuration's, which under `Config.default` is the row's word (log entry 11). -/

namespace Sys2Proof.Machine

/-- Row LED_LUT_NONE: entry 0 of LED_LUT (R50). -/
def execLedLutNone (s : State) : Host.Outcome State Fault Refusal := .next (showLut ButtonState.none.code s)

/-- Row LED_LUT_B1: entry 1 of LED_LUT (R50). -/
def execLedLutB1 (s : State) : Host.Outcome State Fault Refusal := .next (showLut ButtonState.b1.code s)

/-- Row LED_LUT_B2: entry 2 of LED_LUT (R50). -/
def execLedLutB2 (s : State) : Host.Outcome State Fault Refusal := .next (showLut ButtonState.b2.code s)

/-- Row LED_LUT_B12: entry 3 of LED_LUT (R50). -/
def execLedLutB12 (s : State) : Host.Outcome State Fault Refusal := .next (showLut ButtonState.b12.code s)

/-- Row LED_LUT_B3: entry 4 of LED_LUT (R50). -/
def execLedLutB3 (s : State) : Host.Outcome State Fault Refusal := .next (showLut ButtonState.b3.code s)

/-- Row LED_LUT_B13: entry 5 of LED_LUT (R50). -/
def execLedLutB13 (s : State) : Host.Outcome State Fault Refusal := .next (showLut ButtonState.b13.code s)

/-- Row LED_LUT_B23: entry 6 of LED_LUT (R50). -/
def execLedLutB23 (s : State) : Host.Outcome State Fault Refusal := .next (showLut ButtonState.b23.code s)

/-- Row LED_LUT_B123: entry 7 of LED_LUT (R50). -/
def execLedLutB123 (s : State) : Host.Outcome State Fault Refusal := .next (showLut ButtonState.b123.code s)

/-- Row TABLE_D_0: entry 0 of the classification table (R46, R49). -/
def execTableD0 (s : State) : Host.Outcome State Fault Refusal := .next (showEntry 0 s)

/-- Row TABLE_D_1: entry 1 of the classification table (R46, R49). -/
def execTableD1 (s : State) : Host.Outcome State Fault Refusal := .next (showEntry 1 s)

/-- Row TABLE_D_2: entry 2 of the classification table (R46, R49). -/
def execTableD2 (s : State) : Host.Outcome State Fault Refusal := .next (showEntry 2 s)

/-- Row TABLE_D_3: entry 3 of the classification table (R46, R49). -/
def execTableD3 (s : State) : Host.Outcome State Fault Refusal := .next (showEntry 3 s)

/-- Row TABLE_D_4: entry 4 of the classification table (R46, R49). -/
def execTableD4 (s : State) : Host.Outcome State Fault Refusal := .next (showEntry 4 s)

/-- Row TABLE_D_5: entry 5 of the classification table (R46, R49). -/
def execTableD5 (s : State) : Host.Outcome State Fault Refusal := .next (showEntry 5 s)

/-- Row TABLE_D_6: entry 6 of the classification table (R46, R49). -/
def execTableD6 (s : State) : Host.Outcome State Fault Refusal := .next (showEntry 6 s)

end Sys2Proof.Machine
end

