-- ==== Sys2Proof/Machine/Dispatch.lean ====
section
/-! DEFINITION. One arm per row of spec/opcode_table.json. -/

namespace Sys2Proof.Machine

def exec (i : Instr) (s : State) : Host.Outcome State Fault Refusal :=
  match i with
  | .reset v t x => Sys2Proof.Machine.execReset v t x s
  | .idle x => Sys2Proof.Machine.execIdle x s
  | .refresh x => Sys2Proof.Machine.execRefresh x s
  | .sample x => Sys2Proof.Machine.execSample x s
  | .sampleRefresh x => Sys2Proof.Machine.execSampleRefresh x s
  | .classify x => Sys2Proof.Machine.execClassify x s
  | .encode q c => Sys2Proof.Machine.execEncode q c s
  | .sync a => Sys2Proof.Machine.execSync a s
  | .envport e => Sys2Proof.Machine.execEnvport e s
  | .stateNone => Sys2Proof.Machine.execStateNone s
  | .stateB1 => Sys2Proof.Machine.execStateB1 s
  | .stateB2 => Sys2Proof.Machine.execStateB2 s
  | .stateB12 => Sys2Proof.Machine.execStateB12 s
  | .stateB3 => Sys2Proof.Machine.execStateB3 s
  | .stateB13 => Sys2Proof.Machine.execStateB13 s
  | .stateB23 => Sys2Proof.Machine.execStateB23 s
  | .stateB123 => Sys2Proof.Machine.execStateB123 s
  | .penc0 x => Sys2Proof.Machine.execPenc0 x s
  | .penc1 x => Sys2Proof.Machine.execPenc1 x s
  | .penc2 x => Sys2Proof.Machine.execPenc2 x s
  | .penc3 x => Sys2Proof.Machine.execPenc3 x s
  | .penc4 x => Sys2Proof.Machine.execPenc4 x s
  | .penc5 x => Sys2Proof.Machine.execPenc5 x s
  | .penc6 x => Sys2Proof.Machine.execPenc6 x s
  | .penc7 => Sys2Proof.Machine.execPenc7 s
  | .ledLutNone => Sys2Proof.Machine.execLedLutNone s
  | .ledLutB1 => Sys2Proof.Machine.execLedLutB1 s
  | .ledLutB2 => Sys2Proof.Machine.execLedLutB2 s
  | .ledLutB12 => Sys2Proof.Machine.execLedLutB12 s
  | .ledLutB3 => Sys2Proof.Machine.execLedLutB3 s
  | .ledLutB13 => Sys2Proof.Machine.execLedLutB13 s
  | .ledLutB23 => Sys2Proof.Machine.execLedLutB23 s
  | .ledLutB123 => Sys2Proof.Machine.execLedLutB123 s
  | .tableD0 => Sys2Proof.Machine.execTableD0 s
  | .tableD1 => Sys2Proof.Machine.execTableD1 s
  | .tableD2 => Sys2Proof.Machine.execTableD2 s
  | .tableD3 => Sys2Proof.Machine.execTableD3 s
  | .tableD4 => Sys2Proof.Machine.execTableD4 s
  | .tableD5 => Sys2Proof.Machine.execTableD5 s
  | .tableD6 => Sys2Proof.Machine.execTableD6 s

end Sys2Proof.Machine
end

