-- ==== Sys2Proof/Machine/Cycle.lean ====
section
/-! DEFINITION. What one step does with its stimulus: a clock cycle of the whole block, a trace line, or a stand-alone
table word; and how the host places a table word where the next step reads it. -/

namespace Sys2Proof.Machine

/-- Go on with `f` when a next state was answered. -/
def andThen (o : Host.Outcome State Fault Refusal) (f : State → Host.Outcome State Fault Refusal) :
    Host.Outcome State Fault Refusal :=
  match o with
  | .next s => f s
  | .fault r => .fault r
  | .refused r => .refused r

/-- The event word of a cycle (R52): `sample_valid` from the flops (R113), the sample from the bus (R114). -/
def cycleWord (c : CycleInput) (s : State) : EventWord :=
  eventWordOf c.rst (sampleValid s) c.refreshTick (busSample s.cycle c.adcData)

/-- SYNC happens "whatever the event word of the cycle is (except RESET, which clears all three)" (R112). -/
def syncUnlessReset (c : CycleInput) (n : Nat) (s : State) : Host.Outcome State Fault Refusal :=
  if c.rst then .next s else exec (.sync (capture n c.adcDone)) s

/-- ENVPORT when the ENVIRONMENT asserts its write, under RESET too (R100). -/
def envWrite (e : Option Nat) (s : State) : Host.Outcome State Fault Refusal :=
  match e with
  | some e => exec (.envport e) s
  | none => .next s

/-- The ENVIRONMENT's write of a cycle. -/
def envOf (c : CycleInput) : Option Nat := if c.envWe then some c.envData else none

/-- The DEBUG SINK takes the strobe of the cycle or drops it; it answers nothing (R104; log entry 8). -/
def deliver (takes : Bool) (s : State) : State :=
  { s with sink := if takes && s.tap.valid then s.sink ++ [s.tap.sample] else s.sink }

/-- The step is over: the next one has the next index (log entry 24). -/
def tick (s : State) : State := { s with cycle := s.cycle + 1 }

/-- One clock cycle (R8, R53, R100, R112): the event of the event word, SYNC, ENVPORT. They write disjoint bits and none
reads what another writes, so their order is the simultaneous write of the edge (log entry 20). -/
def runCycle (c : CycleInput) (s : State) : Host.Outcome State Fault Refusal :=
  andThen (exec (decodeEvent (cycleWord c s)) s) fun s1 =>
  andThen (syncUnlessReset c s.cycle s1) fun s2 =>
  andThen (envWrite (envOf c) s2) fun s3 =>
  .next (tick (deliver c.sinkTakes s3))

/-- One line of a trace (R57): "it gives `sample_valid` directly and says nothing of `adc_done`", so no SYNC (R118; log
entry 14). -/
def runLine (l : TraceLine) (s : State) : Host.Outcome State Fault Refusal :=
  andThen (exec (decodeEvent l.word) s) fun s1 =>
  andThen (envWrite l.env s1) fun s2 =>
  .next (tick s2)

/-- One word on the wires of its format, by itself (log entries 10, 12). A number that is no word of the format performs
no operation (log entry 15). -/
def runWord (f : Format) (w : Nat) (s : State) : Host.Outcome State Fault Refusal :=
  match decodeWord s.cfg.portW f w with
  | .ok i => andThen (exec i s) fun s1 => .next (tick s1)
  | .error _ => .next (tick s)

/-- The stimulus of the next step and the state without it: the schedule's first, or, where nothing is scheduled, a
cycle whose inputs the agents choose freely (log entry 5). -/
def fetch (s : State) : Stimulus × State :=
  match s.inputs with
  | [] => (.cycle (Config.freeCycle s.cycle), s)
  | i :: rest => (i, { s with inputs := rest })

/-- Run a stimulus. -/
def perform (i : Stimulus) (s : State) : Host.Outcome State Fault Refusal :=
  match i with
  | .cycle c => runCycle c s
  | .line l => runLine l s
  | .word f w => runWord f w s

/-- The cycle in which the block sees the event word `w`, but for `sample_valid`, which the flops give. -/
def cycleOf (w : EventWord) : CycleInput :=
  { rst := w[10], refreshTick := w[8], adcDone := .low, adcData := .steady (w.extractLsb' 0 8),
    envWe := false, envData := 0, sinkTakes := false }

/-- Put a bare table word where the next step reads it (log entries 12, 13): an event word as the inputs of a cycle, with
the flops such that `sample_valid` is its bit 9; any other word on the wires of its format. -/
def placeWord (s : State) (nbits w : Nat) : State :=
  match formatOfTableWord nbits w with
  | .event =>
    if w < 2 ^ 11 then
      { s with
        sy2 := (BitVec.ofNat 11 w)[9]
        sy3 := false
        inputs := .cycle (cycleOf (BitVec.ofNat 11 w)) :: s.inputs }
    else { s with inputs := .word .event w :: s.inputs }
  | f => { s with inputs := .word f w :: s.inputs }

end Sys2Proof.Machine
end

