-- ==== Sys2Proof/Machine/Step.lean ====
section
/-! DEFINITION. One step of the machine, and the host's placing of a table word before it. -/

namespace Sys2Proof.Machine

/-- One step: fetch the stimulus and run it. "The step of the block is one clock cycle" (R8); the other stimuli are the
model's (log entries 10, 14). -/
def step (s : State) : Host.Outcome State Fault Refusal := perform (fetch s).1 (fetch s).2

/-- `s` with the table word `w` of `nbits` bits where `step` reads its next stimulus (log entry 13). -/
def State.withFetchWord (s : State) (nbits w : Nat) : State := placeWord s nbits w

end Sys2Proof.Machine
end

