-- ==== Sys2Proof/Safety.lean ====
section
/-! DEFINITION. The terms claims are stated in: the invariant of the registers, what the LEDs show, runs of events and of
clock cycles, and the sampler's obligations on `adc_done` (R152, R153). -/

namespace Sys2Proof.Machine

/-- The invariant: a configuration that R55 does not refuse, and `CNT` in `0 .. K-1` (R13). -/
abbrev State.Inv (s : State) : Prop := s.cfg.WellFormed ∧ s.cnt.toNat < s.cfg.throttle

/-- The LED bits of PORT are the LED pattern of the state of code `q` (R99). -/
abbrev LedsShow (s : State) (q : Code) : Prop :=
  s.port &&& ledMask s.cfg = ledPattern s.cfg q &&& ledMask s.cfg

/-- Bit `n` of the port is one of the three LED bits (R15). -/
abbrev IsLedPin (c : Config) (n : Nat) : Prop := ∃ k, c.pin k = n

/-! ### Runs of events -/

/-- SAMPLE, or SAMPLE_REFRESH, which "count as SAMPLE events" (R90): the sample it takes. -/
def sampleOf : Instr → Option Byte
  | .sample x => some x
  | .sampleRefresh x => some x
  | _ => none

/-- An event of the event word other than RESET (R53). -/
def isRunEvent : Instr → Bool
  | .idle _ => true
  | .refresh _ => true
  | .sample _ => true
  | .sampleRefresh _ => true
  | _ => false

/-- The events of a list, one after the other. -/
def runEvents : List Instr → State → Host.Outcome State Fault Refusal
  | [], s => .next s
  | i :: rest, s => andThen (exec i s) (runEvents rest)

/-- How many of the events of a list raise `dbg_valid` (R90). -/
def strobes : List Instr → State → Nat
  | [], _ => 0
  | i :: rest, s =>
    match exec i s with
    | .next t => (if t.tap.valid then 1 else 0) + strobes rest t
    | _ => 0

/-- The samples a list of events takes, in order. -/
def samplesOf (is : List Instr) : List Byte := is.filterMap sampleOf

/-! ### Runs of clock cycles -/

/-- The cycles of a list, one after the other. -/
def runCycles : List CycleInput → State → Host.Outcome State Fault Refusal
  | [], s => .next s
  | c :: rest, s => andThen (runCycle c s) (runCycles rest)

/-- The code whose pattern the LED bits hold after a list of cycles, `q` being the one before it: that of the STATE held
in the cycle of the last refresh, or of NONE at a reset (R99). -/
def shownCode : List CycleInput → State → Code → Code
  | [], _, q => q
  | c :: rest, s, q =>
    match runCycle c s with
    | .next t => shownCode rest t (if c.rst then ButtonState.none.code else if c.refreshTick then s.state else q)
    | _ => q

/-- In how many of the cycles of a list `sample_valid = 1` (R113). -/
def validCycles : List CycleInput → State → Nat
  | [], _ => 0
  | c :: rest, s =>
    (if sampleValid s then 1 else 0) +
      match runCycle c s with
      | .next t => validCycles rest t
      | _ => 0

/-! ### Runs that never end (R9 items 7 and 8) -/

/-- The first `k` cycles of a run whose inputs in cycle `n` are `w n`: "A run never ends" (R9 item 8). -/
def runStream (w : Nat → CycleInput) : Nat → State → Host.Outcome State Fault Refusal
  | 0, s => .next s
  | k + 1, s => andThen (runStream w k s) (runCycle (w k))

/-- The fairness of R159, "ticks recur forever" (R9 item 7): `rst` is 0 from some cycle on and `refresh_tick = 1` in
infinitely many cycles. Nothing is assumed of samples. -/
abbrev Fair (w : Nat → CycleInput) : Prop :=
  (∃ n, ∀ m, n ≤ m → (w m).rst = false) ∧ ∀ m, ∃ k, m ≤ k ∧ (w k).refreshTick = true

/-- From cycle `n` of the run on there is no SAMPLE event (R159: the sampler may produce finitely many, or none). -/
abbrev NoSampleFrom (w : Nat → CycleInput) (s : State) (n : Nat) : Prop :=
  ∀ k t, n ≤ k → runStream w k s = .next t → (w k).rst = true ∨ sampleValid t = false

/-- What the outside sees of a cycle: the value of PORT after its edge and the strobe (R9 item 8). -/
structure Observation where
  port : Nat
  strobe : Option Byte
  deriving DecidableEq, Repr

/-- The observation of a state. -/
def observe (s : State) : Observation :=
  { port := s.port.toNat, strobe := if s.tap.valid then some s.tap.sample else none }

/-- The infinite trace of a run: the observation of its cycle `k`. -/
def observed (w : Nat → CycleInput) (s : State) (k : Nat) : Option Observation :=
  match runStream w (k + 1) s with
  | .next t => some (observe t)
  | _ => none

/-! ### The sampler's obligations -/

/-- A pulse of `adc_done` that meets R152 and R153, as the clock edges see it: an edge inside the window of the rise or
none, at least one edge at which it is steady high, an edge inside the window of the fall or none, at least one edge at
which it is steady low. -/
structure Pulse where
  riseInWindow : Bool
  moreHigh : Nat
  fallInWindow : Bool
  moreLow : Nat
  deriving DecidableEq, Repr

/-- The levels of a pulse at successive edges. -/
def Pulse.levels (p : Pulse) : List FlagLevel :=
  (if p.riseInWindow then [.changing] else []) ++ .high :: List.replicate p.moreHigh .high
    ++ (if p.fallInWindow then [.changing] else []) ++ .low :: List.replicate p.moreLow .low

end Sys2Proof.Machine
end

