-- ==== Sys2Proof/Certificates/Slice0/Obligations.lean ====
section
/-! DEFINITION. The statements for the provers, from the numbered rules of spec/. OBLIGATIONS.json lists them. -/

open Sys2Proof Sys2Proof.Machine

/-! ### The step and the decoder -/

/-- R53, R100, R112: a clock cycle runs the event decoded from its event word, then SYNC unless it is a RESET, then the
ENVIRONMENT's write if there is one; the sink takes or drops the strobe. -/
def Obligations.CycleRunsDecodedEvent : Prop :=
  ∀ (s : State) (c : CycleInput) (rest : List Stimulus), s.inputs = .cycle c :: rest →
    step s =
      andThen (exec (decodeEvent (eventWordOf c.rst (s.sy2 && !s.sy3) c.refreshTick (busSample s.cycle c.adcData)))
        { s with inputs := rest }) fun s1 =>
      andThen (if c.rst then .next s1 else exec (.sync (capture s.cycle c.adcDone)) s1) fun s2 =>
      andThen (if c.envWe then exec (.envport c.envData) s2 else .next s2) fun s3 =>
      .next { s3 with
        sink := if c.sinkTakes && s3.tap.valid then s3.sink ++ [s3.tap.sample] else s3.sink
        cycle := s3.cycle + 1 }

/-- R57, and the model's stand-alone words (log entries 5, 10, 14): a trace line runs its event and its write, a table
word runs the instruction its format decodes to, a number that is no word performs no operation (log entry 15), and where
nothing is scheduled the step is a free cycle. -/
def Obligations.OtherStimuliRunDecodedWord : Prop :=
  (∀ (s : State) (l : TraceLine) (rest : List Stimulus), s.inputs = .line l :: rest →
    step s =
      andThen (exec (decodeEvent l.word) { s with inputs := rest }) fun s1 =>
      andThen (match l.env with | some e => exec (.envport e) s1 | none => .next s1) fun s2 =>
      .next { s2 with cycle := s2.cycle + 1 }) ∧
  (∀ (s : State) (f : Format) (w : Nat) (i : Instr) (rest : List Stimulus), s.inputs = .word f w :: rest →
    decodeWord s.cfg.portW f w = .ok i →
    step s = andThen (exec i { s with inputs := rest }) fun s1 => .next { s1 with cycle := s1.cycle + 1 }) ∧
  (∀ (s : State) (f : Format) (w : Nat) (e : DecodeError) (rest : List Stimulus), s.inputs = .word f w :: rest →
    decodeWord s.cfg.portW f w = .error e →
    step s = .next { s with inputs := rest, cycle := s.cycle + 1 }) ∧
  (∀ s : State, s.inputs = [] →
    step s = step { s with inputs := [.cycle (Config.freeCycle s.cycle)] })

/-- R53, R45, R59, R46: a few words written out from the spec's encodings decode to what they stand for. The words of ENCODE
and ENVPORT are those of spec/opcode_table.json, which gives these two operations a word. That the decoder refuses the
comparator vector 0 by name is the model's choice (log entries 15, 16). -/
def Obligations.KnownWordsDecode : Prop :=
  decodeEvent 0x400#11 = .reset false false 0x00#8 ∧
  decodeEvent 0x7fa#11 = .reset true true 250#8 ∧
  decodeEvent 0x000#11 = .idle 0x00#8 ∧
  decodeEvent 0x100#11 = .refresh 0x00#8 ∧
  decodeEvent 0x28e#11 = .sample 142#8 ∧
  decodeEvent 0x3e6#11 = .sampleRefresh 230#8 ∧
  decodeWord 8 .stateCode 0b110 = .ok .stateB23 ∧
  decodeWord 8 .comparatorVector 0b11111000 = .ok (.penc3 0b1111#4) ∧
  decodeWord 8 .thresholdEntry 0b10111001001 = .ok .tableD3 ∧
  decodeWord 8 .encode 0b10110101000 = .ok (.encode 0b101#3 0xa8) ∧
  decodeWord 8 .envport 0b111101111 = .ok (.envport 0xef) ∧
  decodeWord 8 .comparatorVector 0 = .error .zeroComparatorVector

/-- R53: "the decode is complete (all 8 combinations are assigned) and `rst` has priority". -/
def Obligations.EventDecodeComplete : Prop :=
  (∀ w : EventWord, eventWordOf w[10] w[9] w[8] (w.extractLsb' 0 8) = w) ∧
  ∀ (v t : Bool) (x : Byte),
    decodeEvent (eventWordOf true v t x) = .reset v t x ∧
    decodeEvent (eventWordOf false false false x) = .idle x ∧
    decodeEvent (eventWordOf false false true x) = .refresh x ∧
    decodeEvent (eventWordOf false true false x) = .sample x ∧
    decodeEvent (eventWordOf false true true x) = .sampleRefresh x

/-- Decode and encode agree on every well-formed instruction of every format, at every port width. -/
def Obligations.DecodeOfEncode : Prop :=
  ∀ (portW : Nat) (i : Instr), i.wellFormed portW = true →
    decodeWord portW (encodeWord portW i).format (encodeWord portW i).bits = .ok i

/-- Each word of a format has one meaning, and encoding that meaning gives the word back. -/
def Obligations.EncodeOfDecode : Prop :=
  ∀ (portW : Nat) (f : Format) (w : Nat) (i : Instr), decodeWord portW f w = .ok i →
    encodeWord portW i = ⟨f, w⟩ ∧ i.wellFormed portW = true

/-! ### Reset and power-on -/

/-- R146 with R23: at power-on STATE is NONE, CNT 0, the flops 0, each LED bit `LED_LUT[0][k] XOR LED_ACTIVE_LOW`, every
other bit of PORT arbitrary; a RESET leaves these registers as they are. -/
def Obligations.PowerOnRegisters : Prop :=
  ∀ (c : Config) (other : BitVec c.portW), c.WellFormed →
    (powerOn c other).state = 0b000#3 ∧ (powerOn c other).cnt = 0 ∧
    (powerOn c other).sy1 = false ∧ (powerOn c other).sy2 = false ∧ (powerOn c other).sy3 = false ∧
    (∀ k : Fin 3, portBit (powerOn c other) (c.pin k) = ((c.lut 0b000#3).getLsbD k.val ^^ c.ledActiveLow)) ∧
    (∀ n, ¬ IsLedPin c n → portBit (powerOn c other) n = other.getLsbD n) ∧
    ∀ (v t : Bool) (x : Byte), ∃ w : Wires c.portW,
      exec (.reset v t x) (powerOn c other) = .next { powerOn c other with tap := ⟨false, x⟩, wires := w }

/-- The model's reset state is the power-on state of its default configuration with the non-LED bits 0 (log entries 2, 3:
K = 4, LED_ACTIVE_LOW = false and the zero bits are the model's choices). -/
def Obligations.ResetStateIsPowerOn : Prop :=
  State.reset = powerOn Config.default 0x00#8 ∧ State.reset.port = 0x00#8

/-- R145: RESET completes: it sets the registers, keeps the non-LED bits of PORT and gives no strobe, whatever the other bits
of its word are; a cycle with `rst = 1` is a RESET whatever its other inputs are, and ENVPORT still applies to the non-LED
bits. -/
def Obligations.ResetEvent : Prop :=
  (∀ (v t : Bool) (x : Byte) (s : State), s.cfg.WellFormed →
    ∃ (p : BitVec s.cfg.portW) (w : Wires s.cfg.portW),
      exec (.reset v t x) s = .next { s with
        state := 0b000#3, cnt := 0, sy1 := false, sy2 := false, sy3 := false, port := p, tap := ⟨false, x⟩, wires := w } ∧
      (∀ k : Fin 3, p.getLsbD (s.cfg.pin k) = ((s.cfg.lut 0b000#3).getLsbD k.val ^^ s.cfg.ledActiveLow)) ∧
      ∀ n, ¬ IsLedPin s.cfg n → p.getLsbD n = portBit s n) ∧
  ∀ (c : CycleInput) (s t : State), s.cfg.WellFormed → c.rst = true → runCycle c s = .next t →
    t.state = 0b000#3 ∧ t.cnt = 0 ∧ t.sy1 = false ∧ t.sy2 = false ∧ t.sy3 = false ∧ t.tap.valid = false ∧ t.sink = s.sink ∧
    (∀ k : Fin 3, portBit t (s.cfg.pin k) = ((s.cfg.lut 0b000#3).getLsbD k.val ^^ s.cfg.ledActiveLow)) ∧
    ∀ n, n < s.cfg.portW → ¬ IsLedPin s.cfg n →
      portBit t n = if c.envWe then c.envData.testBit n else portBit s n

/-! ### The events -/

/-- R101: IDLE completes and changes no register; in a cycle that is an IDLE the flops take their SYNC step, ENVPORT its
non-LED bits of PORT, there is no strobe, and every other register and the LED bits stay. -/
def Obligations.IdleEvent : Prop :=
  (∀ (x : Byte) (s : State),
    exec (.idle x) s = .next { s with tap := ⟨false, x⟩, wires := Wires.off s.cfg.portW }) ∧
  ∀ (c : CycleInput) (s t : State), c.rst = false → sampleValid s = false → c.refreshTick = false →
    runCycle c s = .next t →
    t.state = s.state ∧ t.cnt.toNat = s.cnt.toNat ∧ t.tap.valid = false ∧ t.sink = s.sink ∧
    (t.sy1, t.sy2, t.sy3) = (capture s.cycle c.adcDone, s.sy1, s.sy2) ∧
    (∀ n, IsLedPin s.cfg n → portBit t n = portBit s n) ∧
    ∀ n, n < s.cfg.portW → ¬ IsLedPin s.cfg n →
      portBit t n = if c.envWe then c.envData.testBit n else portBit s n

/-- R95, R75: REFRESH completes; PORT becomes `encode(STATE, PORT)`: at `LED_PIN[k]` the bit `LED_LUT[STATE][k] XOR
LED_ACTIVE_LOW`, elsewhere the bit it had; STATE, CNT, SY1 to SY3 stay and there is no strobe. -/
def Obligations.RefreshEvent : Prop :=
  ∀ (x : Byte) (s : State), s.cfg.WellFormed →
    ∃ (p : BitVec s.cfg.portW) (w : Wires s.cfg.portW),
      exec (.refresh x) s = .next { s with port := p, tap := ⟨false, x⟩, wires := w } ∧
      (∀ k : Fin 3, p.getLsbD (s.cfg.pin k) = ((s.cfg.lut s.state).getLsbD k.val ^^ s.cfg.ledActiveLow)) ∧
      ∀ n, ¬ IsLedPin s.cfg n → p.getLsbD n = portBit s n

/-- R85, R87, R89: SAMPLE completes; the tap fires when CNT is 0 on entry, CNT counts modulo K, STATE takes the code of the
scan of the table (R65); PORT and the flops stay. -/
def Obligations.SampleEvent : Prop :=
  ∀ (x : Byte) (s : State),
    ∃ w : Wires s.cfg.portW,
      exec (.sample x) s = .next { s with
        state := (classifyScan s.cfg x).code
        cnt := if s.cnt.toNat = s.cfg.throttle - 1 then 0 else s.cnt + 1
        tap := ⟨decide (s.cnt = 0), x⟩
        wires := w }

/-- R117: SAMPLE_REFRESH completes with both effects, the refresh on the STATE of before the edge. -/
def Obligations.SampleRefreshEvent : Prop :=
  ∀ (x : Byte) (s : State), s.cfg.WellFormed →
    ∃ (p : BitVec s.cfg.portW) (w : Wires s.cfg.portW),
      exec (.sampleRefresh x) s = .next { s with
        state := (classifyScan s.cfg x).code
        cnt := if s.cnt.toNat = s.cfg.throttle - 1 then 0 else s.cnt + 1
        port := p
        tap := ⟨decide (s.cnt = 0), x⟩
        wires := w } ∧
      (∀ k : Fin 3, p.getLsbD (s.cfg.pin k) = ((s.cfg.lut s.state).getLsbD k.val ^^ s.cfg.ledActiveLow)) ∧
      ∀ n, ¬ IsLedPin s.cfg n → p.getLsbD n = portBit s n

/-! ### The functions, the steps and the rows of codes and tables, by themselves -/

/-- R65, R66, R67: CLASSIFY completes with the result of the scan on the wires and no register changed. -/
def Obligations.ClassifyFunction : Prop :=
  ∀ (x : Byte) (s : State),
    exec (.classify x) s = .next { s with
      wires := { Wires.off s.cfg.portW with
        bank := some (comparatorBank s.cfg x)
        bucket := some (bucketOf s.cfg x)
        symbol := some (classifyScan s.cfg x) } }

/-- R75: ENCODE completes; its result has the LED bits of the code and the other bits of the operand; no register
changes. -/
def Obligations.EncodeFunction : Prop :=
  ∀ (q : Code) (cur : Nat) (s : State), s.cfg.WellFormed →
    ∃ p : BitVec s.cfg.portW,
      exec (.encode q cur) s = .next { s with
        wires := { Wires.off s.cfg.portW with
          lit := some (s.cfg.lut q)
          drv := some (if s.cfg.ledActiveLow then ~~~(s.cfg.lut q) else s.cfg.lut q)
          newPort := some p } } ∧
      (∀ k : Fin 3, p.getLsbD (s.cfg.pin k) = ((s.cfg.lut q).getLsbD k.val ^^ s.cfg.ledActiveLow)) ∧
      ∀ n, n < s.cfg.portW → ¬ IsLedPin s.cfg n → p.getLsbD n = cur.testBit n

/-- R112: SYNC completes: `SY1 <- capture(adc_done)`, `SY2 <- SY1`, `SY3 <- SY2` at one edge, no other register touched; it
happens in every cycle with `rst = 0` whatever the event, and RESET clears all three flops. -/
def Obligations.SyncStep : Prop :=
  (∀ (a : Bool) (s : State), exec (.sync a) s = .next { s with sy1 := a, sy2 := s.sy1, sy3 := s.sy2 }) ∧
  ∀ (c : CycleInput) (s t : State), runCycle c s = .next t →
    (t.sy1, t.sy2, t.sy3) = if c.rst then (false, false, false) else (capture s.cycle c.adcDone, s.sy1, s.sy2)

/-- R100: ENVPORT completes: the non-LED bits of PORT take those of `env_data`, the LED bits of `env_data` are ignored, and
nothing else changes. -/
def Obligations.EnvportStep : Prop :=
  ∀ (e : Nat) (s : State),
    ∃ p : BitVec s.cfg.portW, exec (.envport e) s = .next { s with port := p } ∧
      (∀ n, IsLedPin s.cfg n → p.getLsbD n = portBit s n) ∧
      ∀ n, n < s.cfg.portW → ¬ IsLedPin s.cfg n → p.getLsbD n = e.testBit n

/-- R45: each state code, by itself on its wires, stands for its symbol; no register changes (log entry 10). -/
def Obligations.StateCodeRows : Prop :=
  ∀ s : State,
    let shows (b : ButtonState) := Host.Outcome.next (φ := Fault) (ρ := Refusal)
      { s with wires := { Wires.off s.cfg.portW with symbol := some b } }
    exec .stateNone s = shows .none ∧ exec .stateB1 s = shows .b1 ∧ exec .stateB2 s = shows .b2 ∧
    exec .stateB12 s = shows .b12 ∧ exec .stateB3 s = shows .b3 ∧ exec .stateB13 s = shows .b13 ∧
    exec .stateB23 s = shows .b23 ∧ exec .stateB123 s = shows .b123

/-- R59: each row of the priority encoder gives its bucket index and `S[b]`, or NONE for the last, whatever the untested
bits are; no register changes (log entry 10). -/
def Obligations.PriorityEncoderRows : Prop :=
  ∀ s : State,
    let shows (v : Byte) (b : Code) (q : ButtonState) := Host.Outcome.next (φ := Fault) (ρ := Refusal)
      { s with wires := { Wires.off s.cfg.portW with bank := some v, bucket := some b, symbol := some q } }
    (∀ x, exec (.penc0 x) s = shows (x ++ 0b1#1) 0 (s.cfg.entryState 0)) ∧
    (∀ x, exec (.penc1 x) s = shows (x ++ 0b10#2) 1 (s.cfg.entryState 1)) ∧
    (∀ x, exec (.penc2 x) s = shows (x ++ 0b100#3) 2 (s.cfg.entryState 2)) ∧
    (∀ x, exec (.penc3 x) s = shows (x ++ 0b1000#4) 3 (s.cfg.entryState 3)) ∧
    (∀ x, exec (.penc4 x) s = shows (x ++ 0b10000#5) 4 (s.cfg.entryState 4)) ∧
    (∀ x, exec (.penc5 x) s = shows (x ++ 0b100000#6) 5 (s.cfg.entryState 5)) ∧
    (∀ x, exec (.penc6 x) s = shows (x ++ 0b1000000#7) 6 (s.cfg.entryState 6)) ∧
    exec .penc7 s = shows 0b10000000#8 7 .none

/-- R50, R76: each row of the LED table looks its entry up; under the default table the entry is the row's word; no
register changes (log entries 10, 11). -/
def Obligations.LedLutRows : Prop :=
  (∀ s : State,
    let shows (q : Code) := Host.Outcome.next (φ := Fault) (ρ := Refusal)
      { s with wires := { Wires.off s.cfg.portW with lit := some (s.cfg.lut q) } }
    exec .ledLutNone s = shows 0b000#3 ∧ exec .ledLutB1 s = shows 0b001#3 ∧ exec .ledLutB2 s = shows 0b010#3 ∧
    exec .ledLutB12 s = shows 0b011#3 ∧ exec .ledLutB3 s = shows 0b100#3 ∧ exec .ledLutB13 s = shows 0b101#3 ∧
    exec .ledLutB23 s = shows 0b110#3 ∧ exec .ledLutB123 s = shows 0b111#3) ∧
  ∀ q : Code, Config.default.lut q = q

/-- R46, R49: each row of the classification table looks its entry `(T[i], S[i])` up; under `TABLE_D` the entry is the
row's word; no register changes (log entries 10, 11). -/
def Obligations.ThresholdRows : Prop :=
  (∀ s : State,
    let shows (i : Fin 7) := Host.Outcome.next (φ := Fault) (ρ := Refusal)
      { s with wires := { Wires.off s.cfg.portW with entry := some (s.cfg.bound i ++ (s.cfg.entryState i).code) } }
    exec .tableD0 s = shows 0 ∧ exec .tableD1 s = shows 1 ∧ exec .tableD2 s = shows 2 ∧ exec .tableD3 s = shows 3 ∧
    exec .tableD4 s = shows 4 ∧ exec .tableD5 s = shows 5 ∧ exec .tableD6 s = shows 6) ∧
  (List.finRange 7).map (entryWord Config.default) =
    [0x4b7#11, 0x51b#11, 0x57d#11, 0x5c9#11, 0x66e#11, 0x6f2#11, 0x784#11]

/-! ### Rules of the whole machine -/

/-- R125: every operation, every clock cycle and every step completes, "never returns a fault and never a refusal". -/
def Obligations.EveryStepCompletes : Prop :=
  (∀ (i : Instr) (s : State), ∃ t, exec i s = .next t) ∧
  (∀ (c : CycleInput) (s : State), ∃ t, runCycle c s = .next t) ∧
  ∀ s : State, ∃ t, step s = .next t

/-- R41, R147: the tables and every parameter are the same after any step. -/
def Obligations.TablesAreConstant : Prop :=
  ∀ s t : State, step s = .next t → t.cfg = s.cfg

/-- R10, R12, R13, R112: STATE and CNT are written only by SAMPLE, SAMPLE_REFRESH and RESET, the flops only by SYNC and
RESET. -/
def Obligations.RegisterWriters : Prop :=
  ∀ (i : Instr) (s t : State), exec i s = .next t →
    ((∀ x, i ≠ .sample x) → (∀ x, i ≠ .sampleRefresh x) → (∀ v u x, i ≠ .reset v u x) →
      t.state = s.state ∧ t.cnt.toNat = s.cnt.toNat) ∧
    ((∀ a, i ≠ .sync a) → (∀ v u x, i ≠ .reset v u x) → t.sy1 = s.sy1 ∧ t.sy2 = s.sy2 ∧ t.sy3 = s.sy3)

/-- R15, R10: the LED bits of PORT are written only by REFRESH, SAMPLE_REFRESH and RESET, the other bits only by
ENVPORT. -/
def Obligations.PortBitWriters : Prop :=
  ∀ (i : Instr) (s t : State), exec i s = .next t → ∀ n,
    (IsLedPin s.cfg n → (∀ x, i ≠ .refresh x) → (∀ x, i ≠ .sampleRefresh x) → (∀ v u x, i ≠ .reset v u x) →
      portBit t n = portBit s n) ∧
    (¬ IsLedPin s.cfg n → (∀ e, i ≠ .envport e) → portBit t n = portBit s n)

/-- R20, R21, R17: the tap's outputs and the wires are not state: what an operation does to the registers does not depend
on what they were. -/
def Obligations.WiresAreNeverRead : Prop :=
  ∀ (i : Instr) (s t : State) (p : Tap) (w : Wires s.cfg.portW), exec i s = .next t →
    ∃ (p' : Tap) (w' : Wires t.cfg.portW),
      exec i { s with tap := p, wires := w } = .next { t with tap := p', wires := w' }

/-- R104: whether the sink takes or drops a strobe changes nothing but what the sink holds: a strobe it does not take is
lost to it. -/
def Obligations.SinkHasNoInfluence : Prop :=
  ∀ (c : CycleInput) (b : Bool) (s t : State), runCycle c s = .next t →
    runCycle { c with sinkTakes := b } s =
      .next { t with sink := if b && t.tap.valid then s.sink ++ [t.tap.sample] else s.sink }

/-- R13 and R41 in every run: a step keeps a well-formed configuration and `CNT` in `0 .. K-1`. -/
def Obligations.StepKeepsInvariant : Prop :=
  ∀ s t : State, s.Inv → step s = .next t → t.Inv

/-- The invariant holds at power-on in every well-formed configuration, and in the model's reset state. -/
def Obligations.InvariantAtPowerOn : Prop :=
  (∀ (c : Config) (other : BitVec c.portW), c.WellFormed → (powerOn c other).Inv) ∧ State.reset.Inv

/-! ### The classifier -/

/-- R68: the scan and the bank with the encoder return the same state, "for every sample and every table, well-formed or
not". -/
def Obligations.BankAgreesWithScan : Prop :=
  ∀ (c : Config) (x : Byte), classify c x = classifyScan c x

/-- R69: one below a bound is that entry's state, the bound itself the next entry's, or NONE after the last. -/
def Obligations.BoundaryLaw : Prop :=
  ∀ c : Config, c.TableAscending →
    (∀ i : Fin 7, classify c (c.bound i - 1#8) = c.entryState i) ∧
    (∀ i : Fin 6, classify c (c.bound i.castSucc) = c.entryState i.succ) ∧
    classify c (c.bound 6) = .none

/-- R70: the buckets `[T[i-1], T[i])` and the default's `[T[6], 255]`; the bucket index is non-decreasing in the sample; each
of the 8 states is the result for at least one sample. -/
def Obligations.PartitionAndMonotonicity : Prop :=
  ∀ c : Config, c.WellFormed →
    (∀ x : Byte,
      (classify c x = c.entryState 0 ↔ x.toNat < (c.bound 0).toNat) ∧
      (∀ i : Fin 6, classify c x = c.entryState i.succ ↔
        (c.bound i.castSucc).toNat ≤ x.toNat ∧ x.toNat < (c.bound i.succ).toNat) ∧
      (classify c x = .none ↔ (c.bound 6).toNat ≤ x.toNat)) ∧
    (∀ x y : Byte, x.toNat ≤ y.toNat → (bucketOf c x).toNat ≤ (bucketOf c y).toNat) ∧
    ∀ b : ButtonState, ∃ x, classify c x = b

/-- R71: the two ends of the range. -/
def Obligations.EndsOfTheRange : Prop :=
  ∀ c : Config, c.WellFormed → classify c 255#8 = .none ∧ classify c 0#8 = c.entryState 0

/-- R66, R59: line `i` of the comparator vector is `sample < T[i]`, unsigned and strict, line 7 is 1; with a well-formed
table only the eight thermometer vectors occur. -/
def Obligations.ComparatorVectors : Prop :=
  ∀ (c : Config) (x : Byte),
    (∀ i : Fin 7, (comparatorBank c x).getLsbD i.val = decide (x.toNat < (c.bound i).toNat)) ∧
    (comparatorBank c x).getLsbD 7 = true ∧
    (c.WellFormed → comparatorBank c x ∈ [0b11111111#8, 0b11111110#8, 0b11111100#8, 0b11111000#8,
      0b11110000#8, 0b11100000#8, 0b11000000#8, 0b10000000#8])

/-- R72: a comparator is the unsigned comparison of two 8-bit values; built as a 9-bit subtraction it takes `c[i]` from the
borrow. -/
def Obligations.ComparatorIsBorrow : Prop :=
  ∀ (c : Config) (x : Byte) (i : Fin 7),
    (comparator c x i = true ↔ x.toNat < (c.bound i).toNat) ∧
    comparator c x i = ((0#1 ++ x : BitVec 9) - (0#1 ++ c.bound i : BitVec 9)).msb

/-! ### The LED encoder -/

/-- R79: non-LED bits pass through; LED bits depend on the state alone; each LED bit is `LED_LUT[state][k] XOR
LED_ACTIVE_LOW`. -/
def Obligations.EncodeLaws : Prop :=
  ∀ (c : Config) (q : Code) (p1 p2 : BitVec c.portW), c.LedPinsOk →
    encodePort c q p1 &&& ~~~ledMask c = p1 &&& ~~~ledMask c ∧
    encodePort c q p1 &&& ledMask c = encodePort c q p2 &&& ledMask c ∧
    encodePort c q p1 &&& ledMask c = ledPattern c q ∧
    ∀ k : Fin 3, (encodePort c q p1).getLsbD (c.pin k) = ((c.lut q).getLsbD k.val ^^ c.ledActiveLow)

/-- R80: "the previous state leaves no trace in the port", and idempotence as its case of one state. -/
def Obligations.EncodeForgetsPreviousState : Prop :=
  ∀ (c : Config) (q1 q2 : Code) (p : BitVec c.portW), encodePort c q2 (encodePort c q1 p) = encodePort c q2 p

/-- R81: the LED bits determine the state exactly when the entries of LED_LUT are distinct. -/
def Obligations.PortDeterminesState : Prop :=
  ∀ c : Config, c.LedPinsOk →
    ((∀ (q1 q2 : Code) (p1 p2 : BitVec c.portW),
        encodePort c q1 p1 &&& ledMask c = encodePort c q2 p2 &&& ledMask c → q1 = q2) ↔
      ∀ q1 q2 : Code, c.lut q1 = c.lut q2 → q1 = q2)

/-- R82: NONE gives three unlit levels and B123 three lit ones (with `LED_LUT[s] = s`); with three pins there are no non-LED
bits; a port that holds the pattern of the state is not changed. -/
def Obligations.EncodeCornerCases : Prop :=
  ∀ (c : Config) (q : Code) (p1 p2 : BitVec c.portW), c.LedPinsOk →
    ((∀ s, c.lut s = s) → ∀ k : Fin 3,
      (encodePort c ButtonState.none.code p1).getLsbD (c.pin k) = c.ledActiveLow ∧
      (encodePort c ButtonState.b123.code p1).getLsbD (c.pin k) = !c.ledActiveLow) ∧
    (c.portW = 3 → encodePort c q p1 = encodePort c q p2) ∧
    (p1 &&& ledMask c = ledPattern c q → encodePort c q p1 = p1)

/-- R100: PORT after any cycle, bit by bit: an LED bit from the refresh, the reset or the old PORT, any other bit from
`env_data` when `env_we = 1`, from the old PORT when not, under RESET too. -/
def Obligations.CycleMergesPort : Prop :=
  ∀ (c : CycleInput) (s t : State), s.cfg.WellFormed → runCycle c s = .next t → ∀ n, n < s.cfg.portW →
    (∀ k : Fin 3, s.cfg.pin k = n →
      portBit t n =
        if c.rst then (s.cfg.lut 0b000#3).getLsbD k.val ^^ s.cfg.ledActiveLow
        else if c.refreshTick then (s.cfg.lut s.state).getLsbD k.val ^^ s.cfg.ledActiveLow
        else portBit s n) ∧
    (¬ IsLedPin s.cfg n → portBit t n = if c.envWe then c.envData.testBit n else portBit s n)

/-- R35: "two REFRESH events with no SAMPLE and no ENVPORT between them leave `PORT` as one would", whatever IDLE cycles, SYNC
steps and further refreshes lie between them. -/
def Obligations.RefreshIsIdempotent : Prop :=
  ∀ (x y : Byte) (s t t' u : State) (between : List Instr),
    (∀ i ∈ between, (∃ z, i = .idle z) ∨ (∃ a, i = .sync a) ∨ ∃ z, i = .refresh z) →
    exec (.refresh x) s = .next t → runEvents between t = .next t' → exec (.refresh y) t' = .next u →
    ∀ n, portBit u n = portBit t n

/-- R99: a cycle with a refresh makes the LED bits of PORT the pattern of the STATE held in it, whatever they were, a reset
that of NONE; after any run of cycles they are the pattern of the last such cycle; at power-on they are that of NONE. -/
def Obligations.LedsShowLastRefresh : Prop :=
  (∀ (c : CycleInput) (s t : State), runCycle c s = .next t →
    (c.rst = true → LedsShow t ButtonState.none.code) ∧
    (c.rst = false → c.refreshTick = true → LedsShow t s.state)) ∧
  (∀ (cs : List CycleInput) (s : State) (q : Code), LedsShow s q →
    ∃ t, runCycles cs s = .next t ∧ LedsShow t (shownCode cs s q)) ∧
  ∀ (c : Config) (other : BitVec c.portW), LedsShow (powerOn c other) ButtonState.none.code

/-! ### The sampling event -/

/-- R90: over any run of events with `M` samples from reset, `dbg_valid` is 1 in exactly `ceil(M / K)` of them; from any
`CNT = c` in exactly `ceil((M - ((K - c) mod K)) / K)`, and in none where `M` is smaller than that offset. -/
def Obligations.ThrottlingLaw : Prop :=
  (∀ (c : Config) (other : BitVec c.portW) (is : List Instr), c.WellFormed → (∀ i ∈ is, isRunEvent i = true) →
    strobes is (powerOn c other) = ((samplesOf is).length + c.throttle - 1) / c.throttle) ∧
  ∀ (s : State) (is : List Instr), s.Inv → (∀ i ∈ is, isRunEvent i = true) →
    strobes is s =
      if (samplesOf is).length < (s.cfg.throttle - s.cnt.toNat) % s.cfg.throttle then 0
      else ((samplesOf is).length - (s.cfg.throttle - s.cnt.toNat) % s.cfg.throttle + s.cfg.throttle - 1) / s.cfg.throttle

/-- R91: after a run of events STATE is the class of the last sample, or what it was where there was none, and a REFRESH
that follows shows it; from reset, NONE where there was none. -/
def Obligations.StateSequenceLaw : Prop :=
  (∀ (s : State) (is : List Instr), (∀ i ∈ is, isRunEvent i = true) →
    ∃ t, runEvents is s = .next t ∧
      t.state = (match (samplesOf is).getLast? with
        | some x => (classifyScan s.cfg x).code
        | none => s.state) ∧
      ∀ y, ∃ u, exec (.refresh y) t = .next u ∧ LedsShow u t.state) ∧
  ∀ (c : Config) (other : BitVec c.portW) (is : List Instr), (∀ i ∈ is, isRunEvent i = true) →
    ∃ t, runEvents is (powerOn c other) = .next t ∧
      t.state = (match (samplesOf is).getLast? with
        | some x => classifyScan c x
        | none => ButtonState.none).code ∧
      ∀ y, ∃ u, exec (.refresh y) t = .next u ∧ LedsShow u t.state

/-- R13, R87: `CNT_W` is the least width that holds `0 .. K-1`, 0 when `K = 1`; below K the register counts modulo K and the
increment does not overflow it. -/
def Obligations.CounterFitsItsWidth : Prop :=
  ∀ c : Config, c.ThrottleOk →
    (∀ w, c.cntW ≤ w ↔ c.throttle ≤ 2 ^ w) ∧
    (c.throttle = 1 → c.cntW = 0 ∧ ∀ n : BitVec c.cntW, n = 0) ∧
    ∀ n : BitVec c.cntW, n.toNat < c.throttle → (nextCount c n).toNat = (n.toNat + 1) % c.throttle

/-- R86, R154: the tap and the classifier see one sample, even of a bus that is not held (any byte). -/
def Obligations.OneSamplePerEvent : Prop :=
  ∀ (c : CycleInput) (s t : State), c.rst = false → s.sy2 = true → s.sy3 = false → runCycle c s = .next t →
    t.state = (classifyScan s.cfg t.tap.sample).code ∧ (t.tap.valid = true ↔ s.cnt = 0) ∧
    ∀ v, c.adcData = .steady v → t.tap.sample = v

/-! ### The front end -/

/-- R113: `sample_valid` is never 1 in two successive cycles. -/
def Obligations.SampleValidNeverTwice : Prop :=
  ∀ (c : CycleInput) (s t : State), s.sy2 = true → s.sy3 = false → runCycle c s = .next t →
    (t.sy2 && !t.sy3) = false

/-- R116: where the flop held 0 and `e1` captures 1, the cycle from `e2` to `e3` is the SAMPLE event and STATE is written at
`e3`. -/
def Obligations.FrontEndLatency : Prop :=
  ∀ (c1 c2 c3 : CycleInput) (s t1 t2 t3 : State) (v : Byte),
    s.sy1 = false → c1.rst = false → c2.rst = false → c3.rst = false →
    capture s.cycle c1.adcDone = true → c3.adcData = .steady v →
    runCycle c1 s = .next t1 → runCycle c2 t1 = .next t2 → runCycle c3 t2 = .next t3 →
    sampleValid t1 = false ∧ sampleValid t2 = true ∧ t3.state = (classifyScan s.cfg v).code

/-- R147, R128: with `adc_done` high when `rst` falls, the SAMPLE event is the third cycle with `rst = 0` and none comes after
it while the flag stays high, however long. -/
def Obligations.EventAfterReset : Prop :=
  (∀ (c0 c1 c2 c3 : CycleInput) (s t0 t1 t2 t3 : State),
    c0.rst = true → c1.rst = false → c2.rst = false → c3.rst = false →
    c1.adcDone = .high → c2.adcDone = .high → c3.adcDone = .high →
    runCycle c0 s = .next t0 → runCycle c1 t0 = .next t1 → runCycle c2 t1 = .next t2 → runCycle c3 t2 = .next t3 →
    sampleValid t0 = false ∧ sampleValid t1 = false ∧ sampleValid t2 = true ∧ sampleValid t3 = false) ∧
  ∀ (c0 : CycleInput) (cs : List CycleInput) (s t0 : State), c0.rst = true → runCycle c0 s = .next t0 →
    (∀ c ∈ cs, c.rst = false ∧ c.adcDone = .high) →
    validCycles cs t0 = if cs.length < 3 then 0 else 1

/-- R113, R152, R153: of a waveform whose pulses meet the obligations each conversion gives exactly one SAMPLE event,
whatever the draws inside the windows and whatever else happens in the cycles. -/
def Obligations.OneEventPerConversion : Prop :=
  ∀ (ps : List Pulse) (cs tail : List CycleInput) (s : State),
    s.sy1 = false → s.sy2 = false → s.sy3 = false →
    (∀ c ∈ cs ++ tail, c.rst = false) → cs.map (·.adcDone) = ps.flatMap Pulse.levels → tail.length = 2 →
    validCycles (cs ++ tail) s = ps.length

/-! ### The configuration -/

/-- R55: an ill-formed configuration is refused by the name of what is wrong with it and no other is refused; no model is
built from it. -/
def Obligations.ConfigurationRefusals : Prop :=
  ∀ (c : Config) (other : BitVec c.portW),
    (c.WellFormed → c.check = none ∧ build c other = .ok (powerOn c other)) ∧
    (¬ c.TableAscending → c.check = some .tableNotAscending) ∧
    (c.TableAscending → ¬ c.StatesCovered → c.check = some .statesNotCovered) ∧
    (c.TableAscending → c.StatesCovered → ¬ c.LedPinsOk → c.check = some .badLedPins) ∧
    (c.TableAscending → c.StatesCovered → c.LedPinsOk → c.throttle = 0 → c.check = some .badThrottle) ∧
    ∀ r, c.check = some r → build c other = .error r

/-! ### Runs that never end -/

/-- R159, R97, R99: in a fair run, from any state, a refresh comes after every cycle and shows the STATE held in its cycle; and
where the samples end, the LED bits from some cycle on are those of STATE. -/
def Obligations.FairRunsShowState : Prop :=
  ∀ (w : Nat → CycleInput) (s : State), Fair w →
    (∀ m, ∃ k t u, m ≤ k ∧ (w k).rst = false ∧ (w k).refreshTick = true ∧
      runStream w k s = .next t ∧ runStream w (k + 1) s = .next u ∧ LedsShow u t.state) ∧
    ((∃ n, NoSampleFrom w s n) →
      ∃ n q, ∀ k, n ≤ k → ∃ t, runStream w k s = .next t ∧ t.state = q ∧ LedsShow t q)

/-- R159: with no samples "`STATE` stays NONE and the LEDs stay off", whatever resets, refreshes and writes there are. -/
def Obligations.NoSamplesNoLight : Prop :=
  ∀ (w : Nat → CycleInput) (c : Config) (other : BitVec c.portW), NoSampleFrom w (powerOn c other) 0 →
    ∀ k, ∃ t, runStream w k (powerOn c other) = .next t ∧
      t.state = ButtonState.none.code ∧ LedsShow t ButtonState.none.code

/-- R104, R9 item 8: which strobes the sink takes changes nothing of what a run that never ends shows. -/
def Obligations.ObservationsIgnoreSink : Prop :=
  ∀ (w : Nat → CycleInput) (b : Nat → Bool) (s : State) (k : Nat),
    observed (fun n => { w n with sinkTakes := b n }) s k = observed w s k
end

