-- ==== Sys2Proof/Laws/State.lean ====
section
/-! SUPPORT. One lemma per field per register update, so that no later proof unfolds a record update. -/

namespace Sys2Proof.Machine

section

variable (s : State) (x : Byte)

@[simp] theorem latchSample_cfg : (latchSample x s).cfg = s.cfg := rfl
@[simp] theorem latchSample_state : (latchSample x s).state = (classify s.cfg x).code := rfl
@[simp] theorem latchSample_cnt : (latchSample x s).cnt = nextCount s.cfg s.cnt := rfl
@[simp] theorem latchSample_port : (latchSample x s).port = s.port := rfl
@[simp] theorem latchSample_sy1 : (latchSample x s).sy1 = s.sy1 := rfl
@[simp] theorem latchSample_sy2 : (latchSample x s).sy2 = s.sy2 := rfl
@[simp] theorem latchSample_sy3 : (latchSample x s).sy3 = s.sy3 := rfl
@[simp] theorem latchSample_tap : (latchSample x s).tap = s.tap := rfl
@[simp] theorem latchSample_wires : (latchSample x s).wires = s.wires := rfl
@[simp] theorem latchSample_inputs : (latchSample x s).inputs = s.inputs := rfl
@[simp] theorem latchSample_sink : (latchSample x s).sink = s.sink := rfl
@[simp] theorem latchSample_cycle : (latchSample x s).cycle = s.cycle := rfl

end

section

variable (s : State)

@[simp] theorem refreshPort_cfg : (refreshPort s).cfg = s.cfg := rfl
@[simp] theorem refreshPort_state : (refreshPort s).state = s.state := rfl
@[simp] theorem refreshPort_cnt : (refreshPort s).cnt = s.cnt := rfl
@[simp] theorem refreshPort_port : (refreshPort s).port = encodePort s.cfg s.state s.port := rfl
@[simp] theorem refreshPort_sy1 : (refreshPort s).sy1 = s.sy1 := rfl
@[simp] theorem refreshPort_sy2 : (refreshPort s).sy2 = s.sy2 := rfl
@[simp] theorem refreshPort_sy3 : (refreshPort s).sy3 = s.sy3 := rfl
@[simp] theorem refreshPort_tap : (refreshPort s).tap = s.tap := rfl
@[simp] theorem refreshPort_wires : (refreshPort s).wires = s.wires := rfl
@[simp] theorem refreshPort_inputs : (refreshPort s).inputs = s.inputs := rfl
@[simp] theorem refreshPort_sink : (refreshPort s).sink = s.sink := rfl
@[simp] theorem refreshPort_cycle : (refreshPort s).cycle = s.cycle := rfl

end

section

variable (s : State)

@[simp] theorem clearRegisters_cfg : (clearRegisters s).cfg = s.cfg := rfl
@[simp] theorem clearRegisters_state : (clearRegisters s).state = ButtonState.none.code := rfl
@[simp] theorem clearRegisters_cnt : (clearRegisters s).cnt = 0 := rfl
@[simp] theorem clearRegisters_port : (clearRegisters s).port = encodePort s.cfg ButtonState.none.code s.port := rfl
@[simp] theorem clearRegisters_sy1 : (clearRegisters s).sy1 = false := rfl
@[simp] theorem clearRegisters_sy2 : (clearRegisters s).sy2 = false := rfl
@[simp] theorem clearRegisters_sy3 : (clearRegisters s).sy3 = false := rfl
@[simp] theorem clearRegisters_tap : (clearRegisters s).tap = s.tap := rfl
@[simp] theorem clearRegisters_wires : (clearRegisters s).wires = s.wires := rfl
@[simp] theorem clearRegisters_inputs : (clearRegisters s).inputs = s.inputs := rfl
@[simp] theorem clearRegisters_sink : (clearRegisters s).sink = s.sink := rfl
@[simp] theorem clearRegisters_cycle : (clearRegisters s).cycle = s.cycle := rfl

end

section

variable (s : State) (a : Bool)

@[simp] theorem shiftFlops_cfg : (shiftFlops a s).cfg = s.cfg := rfl
@[simp] theorem shiftFlops_state : (shiftFlops a s).state = s.state := rfl
@[simp] theorem shiftFlops_cnt : (shiftFlops a s).cnt = s.cnt := rfl
@[simp] theorem shiftFlops_port : (shiftFlops a s).port = s.port := rfl
@[simp] theorem shiftFlops_sy1 : (shiftFlops a s).sy1 = a := rfl
@[simp] theorem shiftFlops_sy2 : (shiftFlops a s).sy2 = s.sy1 := rfl
@[simp] theorem shiftFlops_sy3 : (shiftFlops a s).sy3 = s.sy2 := rfl
@[simp] theorem shiftFlops_tap : (shiftFlops a s).tap = s.tap := rfl
@[simp] theorem shiftFlops_wires : (shiftFlops a s).wires = s.wires := rfl
@[simp] theorem shiftFlops_inputs : (shiftFlops a s).inputs = s.inputs := rfl
@[simp] theorem shiftFlops_sink : (shiftFlops a s).sink = s.sink := rfl
@[simp] theorem shiftFlops_cycle : (shiftFlops a s).cycle = s.cycle := rfl

end

section

variable (s : State) (e : Nat)

@[simp] theorem writeEnv_cfg : (writeEnv e s).cfg = s.cfg := rfl
@[simp] theorem writeEnv_state : (writeEnv e s).state = s.state := rfl
@[simp] theorem writeEnv_cnt : (writeEnv e s).cnt = s.cnt := rfl
@[simp] theorem writeEnv_port : (writeEnv e s).port = mergeEnv s.cfg (portBits s.cfg e) s.port := rfl
@[simp] theorem writeEnv_sy1 : (writeEnv e s).sy1 = s.sy1 := rfl
@[simp] theorem writeEnv_sy2 : (writeEnv e s).sy2 = s.sy2 := rfl
@[simp] theorem writeEnv_sy3 : (writeEnv e s).sy3 = s.sy3 := rfl
@[simp] theorem writeEnv_tap : (writeEnv e s).tap = s.tap := rfl
@[simp] theorem writeEnv_wires : (writeEnv e s).wires = s.wires := rfl
@[simp] theorem writeEnv_inputs : (writeEnv e s).inputs = s.inputs := rfl
@[simp] theorem writeEnv_sink : (writeEnv e s).sink = s.sink := rfl
@[simp] theorem writeEnv_cycle : (writeEnv e s).cycle = s.cycle := rfl

end

section

variable (s : State) (t : Tap) (w : Wires s.cfg.portW)

@[simp] theorem present_cfg : (present s t w).cfg = s.cfg := rfl
@[simp] theorem present_state : (present s t w).state = s.state := rfl
@[simp] theorem present_cnt : (present s t w).cnt = s.cnt := rfl
@[simp] theorem present_port : (present s t w).port = s.port := rfl
@[simp] theorem present_sy1 : (present s t w).sy1 = s.sy1 := rfl
@[simp] theorem present_sy2 : (present s t w).sy2 = s.sy2 := rfl
@[simp] theorem present_sy3 : (present s t w).sy3 = s.sy3 := rfl
@[simp] theorem present_tap : (present s t w).tap = t := rfl
@[simp] theorem present_wires : (present s t w).wires = w := rfl
@[simp] theorem present_inputs : (present s t w).inputs = s.inputs := rfl
@[simp] theorem present_sink : (present s t w).sink = s.sink := rfl
@[simp] theorem present_cycle : (present s t w).cycle = s.cycle := rfl

end

section

variable (s : State) (w : Wires s.cfg.portW)

@[simp] theorem evaluate_cfg : (evaluate s w).cfg = s.cfg := rfl
@[simp] theorem evaluate_state : (evaluate s w).state = s.state := rfl
@[simp] theorem evaluate_cnt : (evaluate s w).cnt = s.cnt := rfl
@[simp] theorem evaluate_port : (evaluate s w).port = s.port := rfl
@[simp] theorem evaluate_sy1 : (evaluate s w).sy1 = s.sy1 := rfl
@[simp] theorem evaluate_sy2 : (evaluate s w).sy2 = s.sy2 := rfl
@[simp] theorem evaluate_sy3 : (evaluate s w).sy3 = s.sy3 := rfl
@[simp] theorem evaluate_tap : (evaluate s w).tap = s.tap := rfl
@[simp] theorem evaluate_wires : (evaluate s w).wires = w := rfl
@[simp] theorem evaluate_inputs : (evaluate s w).inputs = s.inputs := rfl
@[simp] theorem evaluate_sink : (evaluate s w).sink = s.sink := rfl
@[simp] theorem evaluate_cycle : (evaluate s w).cycle = s.cycle := rfl

end

section

variable (s : State) (b : Bool)

@[simp] theorem deliver_cfg : (deliver b s).cfg = s.cfg := rfl
@[simp] theorem deliver_state : (deliver b s).state = s.state := rfl
@[simp] theorem deliver_cnt : (deliver b s).cnt = s.cnt := rfl
@[simp] theorem deliver_port : (deliver b s).port = s.port := rfl
@[simp] theorem deliver_sy1 : (deliver b s).sy1 = s.sy1 := rfl
@[simp] theorem deliver_sy2 : (deliver b s).sy2 = s.sy2 := rfl
@[simp] theorem deliver_sy3 : (deliver b s).sy3 = s.sy3 := rfl
@[simp] theorem deliver_tap : (deliver b s).tap = s.tap := rfl
@[simp] theorem deliver_wires : (deliver b s).wires = s.wires := rfl
@[simp] theorem deliver_inputs : (deliver b s).inputs = s.inputs := rfl
@[simp] theorem deliver_sink : (deliver b s).sink = (if b && s.tap.valid then s.sink ++ [s.tap.sample] else s.sink) := rfl
@[simp] theorem deliver_cycle : (deliver b s).cycle = s.cycle := rfl

end

section

variable (s : State)

@[simp] theorem tick_cfg : (tick s).cfg = s.cfg := rfl
@[simp] theorem tick_state : (tick s).state = s.state := rfl
@[simp] theorem tick_cnt : (tick s).cnt = s.cnt := rfl
@[simp] theorem tick_port : (tick s).port = s.port := rfl
@[simp] theorem tick_sy1 : (tick s).sy1 = s.sy1 := rfl
@[simp] theorem tick_sy2 : (tick s).sy2 = s.sy2 := rfl
@[simp] theorem tick_sy3 : (tick s).sy3 = s.sy3 := rfl
@[simp] theorem tick_tap : (tick s).tap = s.tap := rfl
@[simp] theorem tick_wires : (tick s).wires = s.wires := rfl
@[simp] theorem tick_inputs : (tick s).inputs = s.inputs := rfl
@[simp] theorem tick_sink : (tick s).sink = s.sink := rfl
@[simp] theorem tick_cycle : (tick s).cycle = s.cycle + 1 := rfl

end

end Sys2Proof.Machine
end

