-- ==== Sys2Proof/Laws/Ops.lean ====
section
/-! SUPPORT. For each shared operation, what it does, said once: the port operations bit by bit, the comparator bank and
the priority encoder line by line, the sequencing of a cycle. -/

namespace Sys2Proof.Machine

@[simp] theorem andThen_next (s : State) (f : State → Host.Outcome State Fault Refusal) : andThen (.next s) f = f s := rfl

theorem andThen_eq_next {o : Host.Outcome State Fault Refusal} {f : State → Host.Outcome State Fault Refusal} {t : State}
    (h : andThen o f = .next t) : ∃ s, o = .next s ∧ f s = .next t := by
  cases o with
  | next s => exact ⟨s, rfl, h⟩
  | fault r => cases r
  | refused r => exact absurd h (by simp [andThen])

/-! ### The port, bit by bit -/

theorem one_shift_getLsbD (w p n : Nat) : (1#w <<< p).getLsbD n = decide (n < w ∧ p = n) := by
  rw [BitVec.getLsbD_shiftLeft, BitVec.getLsbD_one]
  by_cases hn : n < w <;> by_cases hp : p = n <;> simp [hn, hp] <;> omega

theorem placed_getLsbD (w : Nat) (b : Bool) (p n : Nat) : (placed w b p).getLsbD n = (decide (n < w ∧ p = n) && b) := by
  unfold placed
  rw [BitVec.getLsbD_shiftLeft, BitVec.getLsbD_setWidth, BitVec.getLsbD_ofBool]
  by_cases hn : n < w <;> by_cases hp : p = n
  · subst hp; cases b <;> simp [hn]; omega
  · by_cases hlt : n < p
    · simp [hlt, hp]
    · have : n - p ≠ 0 := by omega
      simp [this, hp]
  · simp [hn]
  · simp [hn]

theorem ledMask_getLsbD (c : Config) (n : Nat) :
    (ledMask c).getLsbD n = decide (n < c.portW ∧ (c.pin 0 = n ∨ c.pin 1 = n ∨ c.pin 2 = n)) := by
  simp only [ledMask, BitVec.getLsbD_or, one_shift_getLsbD]
  by_cases hn : n < c.portW <;> simp [hn, Bool.or_assoc]

theorem ledPattern_getLsbD (c : Config) (q : Code) (n : Nat) :
    (ledPattern c q).getLsbD n = (decide (n < c.portW) &&
      ((decide (c.pin 0 = n) && (driveLevels c (c.lut q))[0]) || (decide (c.pin 1 = n) && (driveLevels c (c.lut q))[1])
        || (decide (c.pin 2 = n) && (driveLevels c (c.lut q))[2]))) := by
  simp only [ledPattern, BitVec.getLsbD_or, placed_getLsbD]
  by_cases hn : n < c.portW <;> simp [hn]

theorem encodePort_getLsbD (c : Config) (q : Code) (p : BitVec c.portW) (n : Nat) :
    (encodePort c q p).getLsbD n =
      if (ledMask c).getLsbD n then (ledPattern c q).getLsbD n else p.getLsbD n := by
  simp only [encodePort, BitVec.getLsbD_or, BitVec.getLsbD_and, BitVec.getLsbD_not]
  by_cases hn : n < c.portW
  · cases (ledMask c).getLsbD n <;> simp [hn]
  · simp [BitVec.getLsbD_of_ge _ n (by omega : c.portW ≤ n)]

theorem mergeEnv_getLsbD (c : Config) (e p : BitVec c.portW) (n : Nat) :
    (mergeEnv c e p).getLsbD n = if (ledMask c).getLsbD n then p.getLsbD n else e.getLsbD n := by
  simp only [mergeEnv, BitVec.getLsbD_or, BitVec.getLsbD_and, BitVec.getLsbD_not]
  by_cases hn : n < c.portW
  · cases (ledMask c).getLsbD n <;> simp [hn]
  · simp [BitVec.getLsbD_of_ge _ n (by omega : c.portW ≤ n)]

/-! ### The pins after each register write -/

section

variable (s : State) (n : Nat)

@[simp] theorem portBit_latchSample (x : Byte) : portBit (latchSample x s) n = portBit s n := rfl
@[simp] theorem portBit_shiftFlops (a : Bool) : portBit (shiftFlops a s) n = portBit s n := rfl
@[simp] theorem portBit_present (t : Tap) (w : Wires s.cfg.portW) : portBit (present s t w) n = portBit s n := rfl
@[simp] theorem portBit_evaluate (w : Wires s.cfg.portW) : portBit (evaluate s w) n = portBit s n := rfl
@[simp] theorem portBit_deliver (b : Bool) : portBit (deliver b s) n = portBit s n := rfl
@[simp] theorem portBit_tick : portBit (tick s) n = portBit s n := rfl

theorem portBit_refreshPort : portBit (refreshPort s) n =
    if (ledMask s.cfg).getLsbD n then (ledPattern s.cfg s.state).getLsbD n else portBit s n :=
  encodePort_getLsbD s.cfg s.state s.port n

theorem portBit_clearRegisters : portBit (clearRegisters s) n =
    if (ledMask s.cfg).getLsbD n then (ledPattern s.cfg ButtonState.none.code).getLsbD n else portBit s n :=
  encodePort_getLsbD s.cfg ButtonState.none.code s.port n

theorem portBit_writeEnv (e : Nat) : portBit (writeEnv e s) n =
    if (ledMask s.cfg).getLsbD n then portBit s n else (portBits s.cfg e).getLsbD n :=
  mergeEnv_getLsbD s.cfg (portBits s.cfg e) s.port n

end

theorem driveLevels_getElem (c : Config) (l : Code) (k : Nat) (h : k < 3) :
    (driveLevels c l)[k] = (l[k] ^^ c.ledActiveLow) := by
  unfold driveLevels
  cases c.ledActiveLow <;> simp

/-! ### The LED bits of well-formed pins -/

theorem portBits_getLsbD (c : Config) (e n : Nat) (h : n < c.portW) : (portBits c e).getLsbD n = e.testBit n := by
  rw [portBits, BitVec.getLsbD_ofNat]
  simp [h]

/-- The mask holds exactly the LED bits the port has. -/
theorem ledMask_iff (c : Config) (n : Nat) : (ledMask c).getLsbD n = true ↔ n < c.portW ∧ ∃ k, c.pin k = n := by
  rw [ledMask_getLsbD]
  simp [Fin.exists_fin_succ]

theorem ledMask_pin {c : Config} (h : c.LedPinsOk) (k : Fin 3) : (ledMask c).getLsbD (c.pin k) = true :=
  (ledMask_iff c _).2 ⟨h.1 k, k, rfl⟩

theorem ledMask_other {c : Config} {n : Nat} (h : ¬ ∃ k, c.pin k = n) : (ledMask c).getLsbD n = false := by
  cases hm : (ledMask c).getLsbD n
  · rfl
  · exact absurd ((ledMask_iff c n).1 hm).2 h

/-- With distinct pins no level hides another. -/
theorem ledPattern_pin {c : Config} (h : c.LedPinsOk) (q : Code) (k : Fin 3) :
    (ledPattern c q).getLsbD (c.pin k) = ((c.lut q).getLsbD k.val ^^ c.ledActiveLow) := by
  have h01 : c.pin 0 ≠ c.pin 1 := fun e => absurd (h.2 _ _ e) (by decide)
  have h02 : c.pin 0 ≠ c.pin 2 := fun e => absurd (h.2 _ _ e) (by decide)
  have h12 : c.pin 1 ≠ c.pin 2 := fun e => absurd (h.2 _ _ e) (by decide)
  rw [ledPattern_getLsbD]
  simp only [driveLevels_getElem]
  fin_cases k
  · simp [h.1 0, h01.symm, h02.symm, BitVec.getLsbD_eq_getElem]
  · simp [h.1 1, h01, h12.symm, BitVec.getLsbD_eq_getElem]
  · simp [h.1 2, h02, h12, BitVec.getLsbD_eq_getElem]

/-- The pattern lights nothing outside the mask, whatever the pins are. -/
theorem ledPattern_other (c : Config) (q : Code) (n : Nat) (h : (ledMask c).getLsbD n = false) :
    (ledPattern c q).getLsbD n = false := by
  rw [ledMask_getLsbD] at h
  rw [ledPattern_getLsbD]
  simp only [decide_eq_false_iff_not, not_and, not_or] at h
  by_cases hn : n < c.portW
  · obtain ⟨a, b, d⟩ := h hn
    simp [a, b, d]
  · simp [hn]

/-! ### The classifier, line by line -/

theorem comparatorBank_getElem (c : Config) (x : Byte) :
    (comparatorBank c x)[0] = comparator c x 0 ∧ (comparatorBank c x)[1] = comparator c x 1 ∧
    (comparatorBank c x)[2] = comparator c x 2 ∧ (comparatorBank c x)[3] = comparator c x 3 ∧
    (comparatorBank c x)[4] = comparator c x 4 ∧ (comparatorBank c x)[5] = comparator c x 5 ∧
    (comparatorBank c x)[6] = comparator c x 6 ∧ (comparatorBank c x)[7] = true := by
  unfold comparatorBank
  generalize comparator c x 0 = a0, comparator c x 1 = a1, comparator c x 2 = a2, comparator c x 3 = a3,
    comparator c x 4 = a4, comparator c x 5 = a5, comparator c x 6 = a6
  revert a0 a1 a2 a3 a4 a5 a6
  decide

theorem bucketOf_eq (c : Config) (x : Byte) :
    bucketOf c x = if comparator c x 0 then 0 else if comparator c x 1 then 1 else if comparator c x 2 then 2
      else if comparator c x 3 then 3 else if comparator c x 4 then 4 else if comparator c x 5 then 5
      else if comparator c x 6 then 6 else 7 := by
  obtain ⟨h0, h1, h2, h3, h4, h5, h6, -⟩ := comparatorBank_getElem c x
  simp only [bucketOf, priorityEncode, h0, h1, h2, h3, h4, h5, h6]

theorem classify_eq (c : Config) (x : Byte) :
    classify c x = if comparator c x 0 then c.entryState 0 else if comparator c x 1 then c.entryState 1
      else if comparator c x 2 then c.entryState 2 else if comparator c x 3 then c.entryState 3
      else if comparator c x 4 then c.entryState 4 else if comparator c x 5 then c.entryState 5
      else if comparator c x 6 then c.entryState 6 else .none := by
  rw [classify, bucketOf_eq]
  generalize comparator c x 0 = a0, comparator c x 1 = a1, comparator c x 2 = a2, comparator c x 3 = a3,
    comparator c x 4 = a4, comparator c x 5 = a5, comparator c x 6 = a6
  cases a0 <;> cases a1 <;> cases a2 <;> cases a3 <;> cases a4 <;> cases a5 <;> cases a6 <;> rfl

@[simp] theorem symbolOf_code (b : ButtonState) : symbolOf b.code = b := by cases b <;> rfl

theorem code_symbolOf (q : Code) : (symbolOf q).code = q := by revert q; decide

end Sys2Proof.Machine
end

