-- ==== Sys2Proof/Laws/Cycle.lean ====
section
/-! SUPPORT. What a clock cycle does to each register, said once: proofs about cycles cite `runCycle_spec` and do not
unfold `runCycle`. -/

namespace Sys2Proof.Machine

/-- The event of an event word put together from its fields. -/
theorem decodeEvent_fields (r v t : Bool) (x : Byte) :
    decodeEvent (eventWordOf r v t x) =
      if r then .reset v t x
      else if v then (if t then .sampleRefresh x else .sample x)
      else (if t then .refresh x else .idle x) := by
  cases r <;> cases v <;> cases t <;> (revert x; decide)

/-- Everything a clock cycle can do: it completes, and each register, output and pin after it. -/
theorem runCycle_spec (c : CycleInput) (s : State) : ∃ t, runCycle c s = .next t ∧ t.cfg = s.cfg ∧
    t.state = (if c.rst then ButtonState.none.code
      else if sampleValid s then (classify s.cfg (busSample s.cycle c.adcData)).code else s.state) ∧
    t.cnt.toNat = (if c.rst then 0 else if sampleValid s then (nextCount s.cfg s.cnt).toNat else s.cnt.toNat) ∧
    (t.sy1, t.sy2, t.sy3) = (if c.rst then (false, false, false) else (capture s.cycle c.adcDone, s.sy1, s.sy2)) ∧
    t.tap = ⟨!c.rst && (sampleValid s && forwards s), busSample s.cycle c.adcData⟩ ∧
    t.sink = (if c.sinkTakes && t.tap.valid then s.sink ++ [t.tap.sample] else s.sink) ∧
    t.inputs = s.inputs ∧ t.cycle = s.cycle + 1 ∧
    ∀ n, portBit t n =
      if (ledMask s.cfg).getLsbD n then
        if c.rst then (ledPattern s.cfg ButtonState.none.code).getLsbD n
        else if c.refreshTick then (ledPattern s.cfg s.state).getLsbD n
        else portBit s n
      else if c.envWe then (portBits s.cfg c.envData).getLsbD n
      else portBit s n := by
  unfold runCycle cycleWord
  rw [decodeEvent_fields]
  simp only [syncUnlessReset, envWrite, envOf]
  cases c.rst <;> cases c.envWe <;> cases hv : sampleValid s <;> cases c.refreshTick <;>
    refine ⟨_, rfl, rfl, rfl, rfl, rfl, ?_, rfl, rfl, rfl, fun n => ?_⟩
  all_goals first
    | rfl
    | (simp [portBit_refreshPort, portBit_clearRegisters, portBit_writeEnv] <;> split <;> simp_all)

/-- The state a run step answers is the one of `runCycle_spec`. -/
theorem runCycle_cfg {c : CycleInput} {s t : State} (h : runCycle c s = .next t) : t.cfg = s.cfg := by
  obtain ⟨u, hu, hc, -⟩ := runCycle_spec c s
  rw [hu] at h
  cases h
  exact hc

/-! ### Runs that never end -/

/-- A run goes on for any number of cycles (R9 item 8), in the one configuration. -/
theorem runStream_next (w : Nat → CycleInput) (s : State) (k : Nat) :
    ∃ t, runStream w k s = .next t ∧ t.cfg = s.cfg := by
  induction k with
  | zero => exact ⟨s, rfl, rfl⟩
  | succ k ih =>
    obtain ⟨t, ht, hc⟩ := ih
    obtain ⟨u, hu, hcu, -⟩ := runCycle_spec (w k) t
    exact ⟨u, by simp only [runStream, ht, andThen_next, hu], hcu.trans hc⟩

theorem runStream_succ {w : Nat → CycleInput} {s t : State} {k : Nat} (h : runStream w k s = .next t) :
    runStream w (k + 1) s = runCycle (w k) t := by
  simp only [runStream, h, andThen_next]

/-- While the flag is low and the first two flops are 0 there is no SAMPLE event. -/
theorem noSample_of_low (w : Nat → CycleInput) (s : State) (n : Nat) (hw : ∀ k, (w k).adcDone = .low)
    (h1 : s.sy1 = false) (h2 : s.sy2 = false) : NoSampleFrom w s n := by
  have flops : ∀ k t, runStream w k s = .next t → t.sy1 = false ∧ t.sy2 = false := by
    intro k
    induction k with
    | zero =>
      intro t ht
      cases ht
      exact ⟨h1, h2⟩
    | succ k ih =>
      intro t ht
      obtain ⟨u, hu, -⟩ := runStream_next w s k
      obtain ⟨a, b⟩ := ih u hu
      rw [runStream_succ hu] at ht
      obtain ⟨t', ht', -, -, -, hf, -⟩ := runCycle_spec (w k) u
      rw [ht'] at ht
      cases ht
      cases hr : (w k).rst <;> simp_all [capture]
  intro k t _ ht
  exact .inr (by simp [sampleValid, (flops k t ht).2])

end Sys2Proof.Machine
end

