-- ==== Sys2Proof/Laws/PerInstr.lean ====
section
/-! SUPPORT. The family `FitsWidth`: for every configuration of the port, the encoded word of a well-formed instruction
fits the width spec/opcode_table.json gives its format. -/

namespace Sys2Proof.Laws.FitsWidth

/-- The word of `i` has no bit above its format's width. -/
def Statement (i : Instr) : Prop :=
  ∀ portW, i.wellFormed portW = true →
    (encodeWord portW i).bits < 2 ^ (encodeWord portW i).format.width portW

theorem reset (v t : Bool) (s : Byte) : Statement (.reset v t s) := fun _ _ => BitVec.isLt _

theorem idle (s : Byte) : Statement (.idle s) := fun _ _ => BitVec.isLt _

theorem refresh (s : Byte) : Statement (.refresh s) := fun _ _ => BitVec.isLt _

theorem sample (s : Byte) : Statement (.sample s) := fun _ _ => BitVec.isLt _

theorem sampleRefresh (s : Byte) : Statement (.sampleRefresh s) := fun _ _ => BitVec.isLt _

theorem classify (s : Byte) : Statement (.classify s) := fun _ _ => BitVec.isLt _

theorem encode (q : Code) (c : Nat) : Statement (.encode q c) := by
  intro w h
  have hc : c < 2 ^ w := by simpa [Instr.wellFormed] using h
  have hq : q.toNat + 1 ≤ 8 := q.isLt
  calc q.toNat * 2 ^ w + c < (q.toNat + 1) * 2 ^ w := by rw [Nat.add_mul]; omega
    _ ≤ 8 * 2 ^ w := Nat.mul_le_mul_right _ hq
    _ = 2 ^ (3 + w) := by rw [Nat.pow_add]

theorem sync (a : Bool) : Statement (.sync a) := fun _ _ => Bool.toNat_lt a

theorem envport (e : Nat) : Statement (.envport e) := by
  intro w h
  have he : e < 2 ^ w := by simpa [Instr.wellFormed] using h
  calc 2 ^ w + e < 2 * 2 ^ w := by omega
    _ = 2 ^ (1 + w) := by rw [Nat.pow_add]

theorem stateNone : Statement (.stateNone) := fun _ _ => by simp [encodeWord, Format.width]

theorem stateB1 : Statement (.stateB1) := fun _ _ => by simp [encodeWord, Format.width]

theorem stateB2 : Statement (.stateB2) := fun _ _ => by simp [encodeWord, Format.width]

theorem stateB12 : Statement (.stateB12) := fun _ _ => by simp [encodeWord, Format.width]

theorem stateB3 : Statement (.stateB3) := fun _ _ => by simp [encodeWord, Format.width]

theorem stateB13 : Statement (.stateB13) := fun _ _ => by simp [encodeWord, Format.width]

theorem stateB23 : Statement (.stateB23) := fun _ _ => by simp [encodeWord, Format.width]

theorem stateB123 : Statement (.stateB123) := fun _ _ => by simp [encodeWord, Format.width]

theorem penc0 (x : BitVec 7) : Statement (.penc0 x) := fun _ _ => BitVec.isLt _

theorem penc1 (x : BitVec 6) : Statement (.penc1 x) := fun _ _ => BitVec.isLt _

theorem penc2 (x : BitVec 5) : Statement (.penc2 x) := fun _ _ => BitVec.isLt _

theorem penc3 (x : BitVec 4) : Statement (.penc3 x) := fun _ _ => BitVec.isLt _

theorem penc4 (x : BitVec 3) : Statement (.penc4 x) := fun _ _ => BitVec.isLt _

theorem penc5 (x : BitVec 2) : Statement (.penc5 x) := fun _ _ => BitVec.isLt _

theorem penc6 (x : BitVec 1) : Statement (.penc6 x) := fun _ _ => BitVec.isLt _

theorem penc7 : Statement (.penc7) := fun _ _ => by simp [encodeWord, Format.width]

theorem ledLutNone : Statement (.ledLutNone) := fun _ _ => by simp [encodeWord, Format.width]

theorem ledLutB1 : Statement (.ledLutB1) := fun _ _ => by simp [encodeWord, Format.width]

theorem ledLutB2 : Statement (.ledLutB2) := fun _ _ => by simp [encodeWord, Format.width]

theorem ledLutB12 : Statement (.ledLutB12) := fun _ _ => by simp [encodeWord, Format.width]

theorem ledLutB3 : Statement (.ledLutB3) := fun _ _ => by simp [encodeWord, Format.width]

theorem ledLutB13 : Statement (.ledLutB13) := fun _ _ => by simp [encodeWord, Format.width]

theorem ledLutB23 : Statement (.ledLutB23) := fun _ _ => by simp [encodeWord, Format.width]

theorem ledLutB123 : Statement (.ledLutB123) := fun _ _ => by simp [encodeWord, Format.width]

theorem tableD0 : Statement (.tableD0) := fun _ _ => by simp [encodeWord, Format.width]

theorem tableD1 : Statement (.tableD1) := fun _ _ => by simp [encodeWord, Format.width]

theorem tableD2 : Statement (.tableD2) := fun _ _ => by simp [encodeWord, Format.width]

theorem tableD3 : Statement (.tableD3) := fun _ _ => by simp [encodeWord, Format.width]

theorem tableD4 : Statement (.tableD4) := fun _ _ => by simp [encodeWord, Format.width]

theorem tableD5 : Statement (.tableD5) := fun _ _ => by simp [encodeWord, Format.width]

theorem tableD6 : Statement (.tableD6) := fun _ _ => by simp [encodeWord, Format.width]

end Sys2Proof.Laws.FitsWidth
end

