-- ==== Sys2Proof/Tests/Slice0.lean ====
section
/-! SUPPORT. Tests: the refusals of ill-formed configurations and operands, a word of every constructor written out from
the spec's encoding, one-step vectors of spec/95_test_vectors.md, and a witness of the hypotheses of every statement. -/

namespace Sys2Proof.Tests

open Sys2Proof.Machine

/-! ### Helpers -/

/-- A state of configuration `c` with the given STATE, CNT and PORT. -/
def machine (c : Config) (q : Code) (n : Nat) (p : BitVec c.portW) : State :=
  { powerOn c p with state := q, cnt := BitVec.ofNat c.cntW n, port := p }

/-- The next state answers `p`. -/
def after (o : Host.Outcome State Fault Refusal) (p : State → Bool) : Bool :=
  match o with
  | .next t => p t
  | _ => false

/-- STATE, CNT and PORT of the next state. -/
def regs (o : Host.Outcome State Fault Refusal) : Option (Nat × Nat × Nat) :=
  match o with
  | .next t => some (t.state.toNat, t.cnt.toNat, t.port.toNat)
  | _ => none

/-- `LED_ACTIVE_LOW = true`, otherwise the default. -/
def activeLow : Config := { Config.default with ledActiveLow := true }

/-- The scattered pins of 95_test_vectors.md section 3. -/
def scattered : Config := { Config.default with ledPin := #v[5, 3, 6] }

/-- The second table of 95_test_vectors.md section 2. -/
def secondTable : Config :=
  { Config.default with
    bounds := #v[1#8, 2#8, 3#8, 4#8, 5#8, 6#8, 255#8]
    states := #v[.b1, .b2, .b3, .b12, .b13, .b23, .b123] }

/-- A configuration with the given throttle factor. -/
def throttled (k : Nat) : Config := { Config.default with throttle := k }

/-- `PORT_W = 3`, no non-LED bits. -/
def narrow : Config := { Config.default with portW := 3 }

/-- A cycle with nothing asserted and the flag low. -/
def quiet : CycleInput :=
  { rst := false, refreshTick := false, adcDone := .low, adcData := .steady 0x00#8, envWe := false, envData := 0,
    sinkTakes := false }

/-! ### Well-formedness, each check with a term it refuses (95_test_vectors.md section 2, R55) -/

theorem test_default_accepted : Config.default.check = none := by decide

theorem test_equal_neighbours_refused :
    ({ Config.default with bounds := #v[150#8, 163#8, 175#8, 175#8, 205#8, 222#8, 240#8] } : Config).check
      = some .tableNotAscending := by decide

theorem test_zero_first_bound_refused :
    ({ Config.default with bounds := #v[0#8, 163#8, 175#8, 185#8, 205#8, 222#8, 240#8] } : Config).check
      = some .tableNotAscending := by decide

theorem test_extreme_bounds_accepted :
    ({ Config.default with bounds := #v[1#8, 163#8, 175#8, 185#8, 205#8, 222#8, 255#8] } : Config).check = none := by
  decide

theorem test_none_entry_refused :
    ({ Config.default with states := #v[.b123, .b12, .b13, .b1, .b23, .b2, .none] } : Config).check
      = some .statesNotCovered := by decide

theorem test_repeated_entry_refused :
    ({ Config.default with states := #v[.b123, .b12, .b13, .b1, .b23, .b2, .b2] } : Config).check
      = some .statesNotCovered := by decide

theorem test_equal_pins_refused : ({ Config.default with ledPin := #v[0, 1, 1] } : Config).check = some .badLedPins := by
  decide

theorem test_pin_outside_refused : ({ Config.default with ledPin := #v[0, 1, 8] } : Config).check = some .badLedPins := by
  decide

theorem test_zero_throttle_refused : (throttled 0).check = some .badThrottle := by decide

theorem test_throttle_one_accepted : (throttled 1).check = none := by decide

theorem test_wide_operands_refused :
    (Instr.encode 0b000#3 256).wellFormed 8 = false ∧ (Instr.encode 0b000#3 255).wellFormed 8 = true ∧
    (Instr.envport 256).wellFormed 8 = false ∧ (Instr.envport 255).wellFormed 8 = true := by decide

/-! ### Decoding: a word of every constructor, written from the spec's encoding of it -/

/-- R53, R57, R145, R101, R95, R85, R117. -/
theorem test_decode_events :
    decodeWord 8 .event 0b10000000000 = .ok (.reset false false 0#8) ∧
    decodeWord 8 .event 0b11111111010 = .ok (.reset true true 250#8) ∧
    decodeWord 8 .event 0b00000000101 = .ok (.idle 5#8) ∧
    decodeWord 8 .event 0b00100000000 = .ok (.refresh 0#8) ∧
    decodeWord 8 .event 0b01010001110 = .ok (.sample 142#8) ∧
    decodeWord 8 .event 0b01110111000 = .ok (.sampleRefresh 184#8) := by decide

/-- The table's operand words of R65, R75, R112, R100. -/
theorem test_decode_functions_and_steps :
    decodeWord 8 .classify 0b11111111 = .ok (.classify 255#8) ∧
    decodeWord 8 .encode 0b11010101000 = .ok (.encode 0b110#3 0xa8) ∧
    decodeWord 8 .sync 0b1 = .ok (.sync true) ∧ decodeWord 8 .sync 0b0 = .ok (.sync false) ∧
    decodeWord 8 .envport 0b100000111 = .ok (.envport 0x07) := by decide

/-- R45. -/
theorem test_decode_state_codes :
    decodeWord 8 .stateCode 0b000 = .ok .stateNone ∧ decodeWord 8 .stateCode 0b001 = .ok .stateB1 ∧
    decodeWord 8 .stateCode 0b010 = .ok .stateB2 ∧ decodeWord 8 .stateCode 0b011 = .ok .stateB12 ∧
    decodeWord 8 .stateCode 0b100 = .ok .stateB3 ∧ decodeWord 8 .stateCode 0b101 = .ok .stateB13 ∧
    decodeWord 8 .stateCode 0b110 = .ok .stateB23 ∧ decodeWord 8 .stateCode 0b111 = .ok .stateB123 := by decide

/-- R59, each row once as a thermometer vector or with its untested bits alternating. -/
theorem test_decode_comparator_vectors :
    decodeWord 8 .comparatorVector 0b11111111 = .ok (.penc0 0b1111111#7) ∧
    decodeWord 8 .comparatorVector 0b10101010 = .ok (.penc1 0b101010#6) ∧
    decodeWord 8 .comparatorVector 0b11111100 = .ok (.penc2 0b11111#5) ∧
    decodeWord 8 .comparatorVector 0b10101000 = .ok (.penc3 0b1010#4) ∧
    decodeWord 8 .comparatorVector 0b11110000 = .ok (.penc4 0b111#3) ∧
    decodeWord 8 .comparatorVector 0b01100000 = .ok (.penc5 0b01#2) ∧
    decodeWord 8 .comparatorVector 0b11000000 = .ok (.penc6 0b1#1) ∧
    decodeWord 8 .comparatorVector 0b10000000 = .ok .penc7 := by decide

/-- R50. -/
theorem test_decode_led_lut :
    decodeWord 8 .ledLut 0b000 = .ok .ledLutNone ∧ decodeWord 8 .ledLut 0b001 = .ok .ledLutB1 ∧
    decodeWord 8 .ledLut 0b010 = .ok .ledLutB2 ∧ decodeWord 8 .ledLut 0b011 = .ok .ledLutB12 ∧
    decodeWord 8 .ledLut 0b100 = .ok .ledLutB3 ∧ decodeWord 8 .ledLut 0b101 = .ok .ledLutB13 ∧
    decodeWord 8 .ledLut 0b110 = .ok .ledLutB23 ∧ decodeWord 8 .ledLut 0b111 = .ok .ledLutB123 := by decide

/-- R46, R49: the bound in bits 10 to 3, the state code in bits 2 to 0. -/
theorem test_decode_table_d :
    decodeWord 8 .thresholdEntry (150 * 8 + 0b111) = .ok .tableD0 ∧
    decodeWord 8 .thresholdEntry (163 * 8 + 0b011) = .ok .tableD1 ∧
    decodeWord 8 .thresholdEntry (175 * 8 + 0b101) = .ok .tableD2 ∧
    decodeWord 8 .thresholdEntry (185 * 8 + 0b001) = .ok .tableD3 ∧
    decodeWord 8 .thresholdEntry (205 * 8 + 0b110) = .ok .tableD4 ∧
    decodeWord 8 .thresholdEntry (222 * 8 + 0b010) = .ok .tableD5 ∧
    decodeWord 8 .thresholdEntry (240 * 8 + 0b100) = .ok .tableD6 := by decide

/-- Numbers that are no word of their format, each refused by name. -/
theorem test_decode_refusals :
    decodeWord 8 .event 0b100000000000 = .error .tooWide ∧
    decodeWord 8 .envport 0b011111111 = .error .noEnvWrite ∧
    decodeWord 8 .comparatorVector 0 = .error .zeroComparatorVector ∧
    decodeWord 8 .thresholdEntry 0 = .error .noTableRow := by decide

/-- The host's numbering of bare words (log entry 12). -/
theorem test_decode_table_words :
    decodeTableWord 16 0x3e6 = some (.sampleRefresh 230#8) ∧ decodeTableWord 16 0x5c9 = some .tableD3 ∧
    decodeTableWord 8 0b110 = some .stateB23 ∧ decodeTableWord 8 0b01100000 = some (.penc5 0b01#2) ∧
    decodeTableWord 9 0b111101111 = some (.envport 0xef) ∧ decodeTableWord 1 1 = some (.sync true) := by decide

/-! ### CLASSIFY (95_test_vectors.md section 2) -/

theorem test_classify_boundaries :
    [0#8, 127#8, 128#8, 149#8, 150#8, 162#8, 163#8, 174#8, 175#8, 184#8, 185#8, 204#8, 205#8, 221#8, 222#8, 239#8,
      240#8, 255#8].map (classify Config.default) =
      [.b123, .b123, .b123, .b123, .b12, .b12, .b13, .b13, .b1, .b1, .b23, .b23, .b2, .b2, .b3, .b3, .none, .none] := by
  decide

theorem test_classify_second_table :
    [0#8, 1#8, 5#8, 6#8, 254#8, 255#8].map (classify secondTable) = [.b1, .b2, .b23, .b123, .b123, .none] := by decide

theorem test_exec_classify :
    after (exec (.classify 163#8) (machine Config.default 0b110#3 2 0x51#8)) (fun t =>
      t.wires.bank == some 0b11111100#8 && t.wires.bucket == some 2#3 && t.wires.symbol == some .b13 &&
        t.state == 0b110#3 && t.cnt.toNat == 2) = true := by decide

/-! ### ENCODE (95_test_vectors.md section 3) -/

theorem test_encode_active_high :
    (List.range 8).map (fun q => (encodePort Config.default (BitVec.ofNat 3 q) 0xa8#8).toNat) =
      [0xa8, 0xa9, 0xaa, 0xab, 0xac, 0xad, 0xae, 0xaf] := by decide

theorem test_encode_active_low :
    (List.range 8).map (fun q => (encodePort activeLow (BitVec.ofNat 3 q) 0xff#8).toNat) =
      [0xff, 0xfe, 0xfd, 0xfc, 0xfb, 0xfa, 0xf9, 0xf8] := by decide

theorem test_encode_scattered_pins :
    [0b000#3, 0b001#3, 0b101#3, 0b110#3, 0b111#3].map (fun q => (encodePort scattered q 0x81#8).toNat) =
      [0x81, 0xa1, 0xe1, 0xc9, 0xe9] := by decide

theorem test_exec_encode :
    after (exec (.encode 0b101#3 0xa8) (machine activeLow 0b000#3 0 0xff#8)) (fun t =>
      t.wires.lit == some 0b101#3 && t.wires.drv == some 0b010#3 && t.wires.newPort.map (·.toNat) == some 0xaa &&
        t.port.toNat == 0xff) = true := by decide

/-! ### The events (95_test_vectors.md sections 4 and 5) -/

theorem test_reset_keeps_other_bits :
    regs (exec (.reset false false 0#8) (machine Config.default 0b010#3 2 0xfa#8)) = some (0, 0, 0xf8) := by decide

theorem test_reset_active_low :
    regs (exec (.reset false false 0#8) (machine activeLow 0b010#3 2 0xfa#8)) = some (0, 0, 0xff) := by decide

/-- The event word 0x7FA is a RESET: no sample counted, no refresh (R129). -/
theorem test_reset_wins :
    regs (exec (decodeEvent 0x7fa#11) (machine Config.default 0b010#3 2 0xfa#8)) = some (0, 0, 0xf8) ∧
    after (exec (decodeEvent 0x7fa#11) (machine Config.default 0b010#3 0 0xfa#8)) (fun t => !t.tap.valid) = true := by
  decide

theorem test_idle_changes_nothing :
    regs (exec (.idle 5#8) (machine Config.default 0b110#3 3 0x51#8)) = some (6, 3, 0x51) := by decide

theorem test_refresh_merges :
    regs (exec (.refresh 0#8) (machine Config.default 0b110#3 1 0x51#8)) = some (6, 1, 0x56) := by decide

theorem test_refresh_active_low_none :
    regs (exec (.refresh 0#8) (machine activeLow 0b000#3 0 0x00#8)) = some (0, 0, 0x07) := by decide

theorem test_sample_strobes_at_zero :
    after (exec (.sample 200#8) (machine Config.default 0b000#3 0 0xa8#8)) (fun t =>
      t.tap.valid && t.tap.sample == 200#8 && t.state == 0b110#3 && t.cnt.toNat == 1 && t.port.toNat == 0xa8) = true := by decide

theorem test_sample_wraps :
    after (exec (.sample 182#8) (machine Config.default 0b111#3 3 0xaf#8)) (fun t =>
      !t.tap.valid && t.state == 0b001#3 && t.cnt.toNat == 0) = true := by decide

/-- With K = 1 the counter stays 0 and every sample strobes. -/
theorem test_sample_throttle_one :
    after (exec (.sample 10#8) (machine (throttled 1) 0b000#3 0 0x00#8)) (fun t => t.tap.valid && t.cnt.toNat == 0) = true := by
  decide

theorem test_sample_refresh_uses_old_state :
    regs (exec (.sampleRefresh 250#8) (machine Config.default 0b001#3 3 0x00#8)) = some (0, 0, 0x01) := by decide

/-- Program 3, cycle 2: K = 3, active low, the port takes B2 and STATE takes B3. -/
theorem test_sample_refresh_program_3 :
    regs (exec (.sampleRefresh 230#8)
      (machine { activeLow with throttle := 3 } 0b010#3 1 0xf7#8)) = some (4, 2, 0xf5) := by decide

theorem test_sync_shifts :
    after (exec (.sync true) { State.reset with sy1 := false, sy2 := true, sy3 := false }) (fun t =>
      t.sy1 && !t.sy2 && t.sy3) = true := by decide

theorem test_envport_ignores_led_bits :
    regs (exec (.envport 0x07) (machine Config.default 0b001#3 0 0x11#8)) = some (1, 0, 0x01) := by decide

/-! ### The rows of codes and tables -/

theorem test_state_code_symbols :
    [Instr.stateNone, .stateB1, .stateB2, .stateB12, .stateB3, .stateB13, .stateB23, .stateB123].map (fun i =>
      match exec i State.reset with
      | .next t => t.wires.symbol
      | _ => none) =
      [some .none, some .b1, some .b2, some .b12, some .b3, some .b13, some .b23, some .b123] := by decide

theorem test_priority_encoder_rows :
    [Instr.penc0 0b1010101#7, .penc1 0b000000#6, .penc2 0b11111#5, .penc3 0b1111#4, .penc4 0b111#3, .penc5 0b11#2,
      .penc6 0b1#1, .penc7].map (fun i =>
      match exec i State.reset with
      | .next t => t.wires.symbol
      | _ => none) =
      [some .b123, some .b12, some .b13, some .b1, some .b23, some .b2, some .b3, some .none] := by decide

theorem test_led_lut_rows :
    [Instr.ledLutNone, .ledLutB1, .ledLutB2, .ledLutB12, .ledLutB3, .ledLutB13, .ledLutB23, .ledLutB123].map (fun i =>
      match exec i State.reset with
      | .next t => t.wires.lit
      | _ => none) =
      [some 0#3, some 1#3, some 2#3, some 3#3, some 4#3, some 5#3, some 6#3, some 7#3] := by decide

theorem test_table_d_rows :
    [Instr.tableD0, .tableD1, .tableD2, .tableD3, .tableD4, .tableD5, .tableD6].map (fun i =>
      match exec i State.reset with
      | .next t => t.wires.entry
      | _ => none) =
      [some 0x4b7#11, some 0x51b#11, some 0x57d#11, some 0x5c9#11, some 0x66e#11, some 0x6f2#11, some 0x784#11] := by
  decide

/-! ### Steps -/

/-- `REFRESH, ENVPORT 0xEF` from STATE = B1, PORT = 0x10 (95_test_vectors.md section 5). -/
theorem test_step_refresh_with_envport :
    regs (step { machine Config.default 0b001#3 0 0x10#8 with inputs := [.line ⟨0x100#11, some 0xef⟩] }) =
      some (1, 0, 0xe9) := by decide

/-- A clock cycle: a sample from the flops, its strobe taken by the sink, the flops shifted (R112, R113). -/
theorem test_step_cycle_samples :
    after (step { machine Config.default 0b000#3 0 0xa8#8 with
        sy1 := true, sy2 := true
        inputs := [.cycle { quiet with adcDone := .high, adcData := .steady 185#8, sinkTakes := true }] }) (fun t =>
      t.state == 0b110#3 && t.cnt.toNat == 1 && t.sink == [185#8] && t.sy1 && t.sy2 && t.sy3 && t.inputs.isEmpty) = true := by
  decide

/-- A reset cycle clears the flops, and ENVPORT still applies (R100, R112). -/
theorem test_step_reset_cycle :
    after (step { machine Config.default 0b010#3 2 0xfa#8 with
        sy1 := true, sy2 := true
        inputs := [.cycle { quiet with rst := true, envWe := true, envData := 0x5f }] }) (fun t =>
      t.state == 0b000#3 && t.cnt.toNat == 0 && t.port.toNat == 0x58 && !t.sy1 && !t.sy2 && !t.sy3 && !t.tap.valid) = true := by
  decide

/-- A stand-alone number that is no word performs no operation (log entry 15). -/
theorem test_step_bad_word :
    (match step { State.reset with inputs := [.word .comparatorVector 0] } with
      | .next t => decide (t = { State.reset with cycle := 1 })
      | _ => false) = true := by decide

theorem test_fetch_word_event :
    after (step (State.reset.withFetchWord 16 0x28e)) (fun t => t.state == 0b111#3 && t.cnt.toNat == 1 && t.tap.valid) = true := by
  decide

theorem test_fetch_word_table :
    after (step (State.reset.withFetchWord 16 0x5c9)) (fun t => t.wires.entry == some 0x5c9#11) = true := by decide

/-! ### Witnesses: a state and operands that meet the hypotheses of each statement -/

/-- ClassifyFunction to EncodeCornerCases, PowerOnRegisters, the events: a well-formed configuration. Boundary pins: 2 is
the last LED bit and 3 the first other bit, 7 the last bit of the port. -/
theorem test_witness_configuration :
    Config.default.WellFormed ∧ scattered.WellFormed ∧ narrow.WellFormed ∧ IsLedPin Config.default 2 ∧
    ¬ IsLedPin Config.default 3 ∧ ¬ IsLedPin Config.default 7 ∧ 7 < Config.default.portW := by decide

/-- CycleRunsDecodedEvent, OtherStimuliRunDecodedWord, StepKeepsInvariant, TablesAreConstant: each kind of stimulus at the
head of the schedule, and none, in a state that meets the invariant. -/
theorem test_witness_inputs :
    ({ State.reset with inputs := [.cycle quiet] } : State).inputs = .cycle quiet :: [] ∧
    ({ State.reset with inputs := [.line ⟨0x100#11, none⟩] } : State).inputs = .line ⟨0x100#11, none⟩ :: [] ∧
    ({ State.reset with inputs := [.word .stateCode 6] } : State).inputs = .word .stateCode 6 :: [] ∧
    decodeWord State.reset.cfg.portW .stateCode 6 = .ok .stateB23 ∧ State.reset.inputs = [] ∧
    ({ State.reset with inputs := [.cycle quiet] } : State).Inv := by decide

theorem test_witness_step :
    ({ State.reset with inputs := [.cycle quiet] } : State).Inv ∧
    ∃ t, step { State.reset with inputs := [.cycle quiet] } = .next t := ⟨by decide, _, rfl⟩

/-- OtherStimuliRunDecodedWord: a number that is no word. -/
theorem test_witness_bad_word :
    ({ State.reset with inputs := [.word .thresholdEntry 0] } : State).inputs = .word .thresholdEntry 0 :: [] ∧
    decodeWord State.reset.cfg.portW .thresholdEntry 0 = .error .noTableRow := by decide

/-- DecodeOfEncode and EncodeOfDecode at the top of the operand's range. -/
theorem test_witness_encoding :
    (Instr.encode 0b111#3 255).wellFormed 8 = true ∧ decodeWord 8 .encode 2047 = .ok (.encode 0b111#3 255) := by decide

/-- StepKeepsInvariant and ThrottlingLaw at the ends of CNT's range, K = 1 among them, and past it at K = 3. -/
theorem test_witness_invariant :
    State.reset.Inv ∧ (machine Config.default 0b000#3 3 0x00#8).Inv ∧ ¬ (machine (throttled 3) 0b000#3 3 0x00#8).Inv ∧
    (machine (throttled 1) 0b000#3 0 0x00#8).Inv ∧ (machine (throttled 1) 0b000#3 0 0x00#8).cfg.throttle = 1 := by decide

/-- CounterFitsItsWidth: CNT_W = ceil(log2 K) at K = 1, 3, 4 and 5 (R6), and the wrap at K - 1 = 2. -/
theorem test_counter_width :
    (throttled 1).cntW = 0 ∧ (throttled 3).cntW = 2 ∧ (throttled 4).cntW = 2 ∧ (throttled 5).cntW = 3 ∧
    (throttled 1).ThrottleOk ∧ nextCount (throttled 3) 2 = 0 ∧ nextCount (throttled 3) 1 = 2 := by decide

/-- ResetEvent, CycleMergesPort, LedsShowLastRefresh, SyncStep, SinkHasNoInfluence: a reset cycle, with ENVPORT. -/
theorem test_witness_reset_cycle :
    State.reset.cfg.WellFormed ∧
    ∃ t, runCycle { quiet with rst := true, envWe := true, envData := 0x5f } State.reset = .next t := ⟨by decide, _, rfl⟩

/-- CycleMergesPort, LedsShowLastRefresh: a refresh cycle. -/
theorem test_witness_refresh_cycle :
    (machine Config.default 0b110#3 0 0x51#8).cfg.WellFormed ∧
    ∃ t, runCycle { quiet with refreshTick := true } (machine Config.default 0b110#3 0 0x51#8) = .next t :=
  ⟨by decide, _, rfl⟩

/-- IdleEvent: an idle cycle. -/
theorem test_witness_idle_cycle :
    quiet.rst = false ∧ sampleValid State.reset = false ∧ quiet.refreshTick = false ∧
    ∃ t, runCycle quiet State.reset = .next t := ⟨rfl, rfl, rfl, _, rfl⟩

/-- OneSamplePerEvent, SampleValidNeverTwice: a cycle with a sample, at CNT = 0 and at CNT = 1. -/
theorem test_witness_sample_cycle :
    quiet.rst = false ∧ ({ State.reset with sy2 := true } : State).sy2 = true ∧
    ({ State.reset with sy2 := true } : State).sy3 = false ∧
    (∃ t, runCycle { quiet with adcData := .steady 200#8 } { State.reset with sy2 := true } = .next t) ∧
    ∃ t, runCycle { quiet with adcData := .steady 200#8 } { machine Config.default 0b000#3 1 0x00#8 with sy2 := true } = .next t :=
  ⟨rfl, rfl, rfl, ⟨_, rfl⟩, _, rfl⟩

/-- LedsShowLastRefresh: the LED bits before the run are a pattern. -/
theorem test_witness_leds : LedsShow State.reset 0b000#3 ∧ LedsShow (machine Config.default 0b001#3 0 0x56#8) 0b110#3 := by
  decide

/-- RegisterWriters, PortBitWriters, WiresAreNeverRead: an instruction that is none of the writers answers a next state. -/
theorem test_witness_other_writer :
    (∃ t, exec (.classify 0#8) State.reset = .next t) ∧ (∀ x, Instr.classify 0#8 ≠ .sample x) ∧
    (∀ x, Instr.classify 0#8 ≠ .sampleRefresh x) ∧ (∀ v u x, Instr.classify 0#8 ≠ .reset v u x) ∧
    (∀ a, Instr.classify 0#8 ≠ .sync a) ∧ (∀ x, Instr.classify 0#8 ≠ .refresh x) ∧
    ∀ e, Instr.classify 0#8 ≠ .envport e :=
  ⟨⟨_, rfl⟩, nofun, nofun, nofun, nofun, nofun, nofun⟩

/-- BoundaryLaw: each side of the first and of the last bound. -/
theorem test_witness_boundary :
    Config.default.TableAscending ∧ classify Config.default 149#8 = Config.default.entryState 0 ∧
    classify Config.default 150#8 = Config.default.entryState 1 ∧
    classify Config.default 239#8 = Config.default.entryState 6 ∧ classify Config.default 240#8 = .none := by decide

/-- PartitionAndMonotonicity, ComparatorVectors: a sample at the foot of each of the eight buckets. -/
theorem test_witness_partition :
    [0#8, 150#8, 163#8, 175#8, 185#8, 205#8, 222#8, 240#8].map (comparatorBank Config.default) =
      [0b11111111#8, 0b11111110#8, 0b11111100#8, 0b11111000#8, 0b11110000#8, 0b11100000#8, 0b11000000#8, 0b10000000#8] := by
  decide

/-- PortDeterminesState: distinct entries, and a table whose entries are not. -/
theorem test_witness_lut :
    (∀ q1 q2, Config.default.lut q1 = Config.default.lut q2 → q1 = q2) ∧
    ({ Config.default with ledLut := #v[0#3, 1#3, 2#3, 3#3, 4#3, 5#3, 6#3, 6#3] } : Config).lut 6#3 =
      ({ Config.default with ledLut := #v[0#3, 1#3, 2#3, 3#3, 4#3, 5#3, 6#3, 6#3] } : Config).lut 7#3 := by decide

/-- EncodeCornerCases: the default table, three pins, and a port that holds the pattern already. -/
theorem test_witness_corner_cases :
    (∀ q, Config.default.lut q = q) ∧ narrow.portW = 3 ∧
    BitVec.ofNat Config.default.portW 0x56 &&& ledMask Config.default = ledPattern Config.default 0b110#3 := by decide

/-- RefreshIsIdempotent: a run between two refreshes. -/
theorem test_witness_between :
    ∃ t t' u, exec (.refresh 0#8) (machine Config.default 0b110#3 0 0x51#8) = .next t ∧
      runEvents [.idle 5#8, .sync true, .refresh 1#8] t = .next t' ∧ exec (.refresh 2#8) t' = .next u :=
  ⟨_, _, _, rfl, rfl, rfl⟩

/-- ThrottlingLaw, StateSequenceLaw: runs of events. K = 4: five samples from reset strobe twice; from CNT = 2 one sample
strobes never and six strobe once (95_test_vectors.md section 4). -/
theorem test_witness_throttle :
    (∀ i ∈ [Instr.sample 1#8, .idle 0#8, .sampleRefresh 2#8, .refresh 0#8], isRunEvent i = true) ∧
    strobes (List.replicate 5 (.sample 1#8)) State.reset = 2 ∧
    strobes [.sample 1#8] (machine Config.default 0b000#3 2 0x00#8) = 0 ∧
    strobes (List.replicate 6 (.sample 1#8)) (machine Config.default 0b000#3 2 0x00#8) = 1 ∧
    (machine Config.default 0b000#3 2 0x00#8).Inv := by decide

/-- StateSequenceLaw on the source's first scenario (95_test_vectors.md S1), and with no sample. -/
theorem test_witness_sequence :
    after (runEvents [.sample 250#8, .sample 250#8, .sample 142#8] State.reset) (fun t => t.state == 0b111#3) = true ∧
    (samplesOf [.idle 0#8, .refresh 0#8]).getLast? = none := by decide

/-- FrontEndLatency: a captured rise, and the two cycles after it. -/
theorem test_witness_latency :
    State.reset.sy1 = false ∧ quiet.rst = false ∧ capture State.reset.cycle FlagLevel.high = true ∧
    ∃ t1 t2 t3, runCycle { quiet with adcDone := .high } State.reset = .next t1 ∧ runCycle quiet t1 = .next t2 ∧
      runCycle { quiet with adcData := .steady 185#8 } t2 = .next t3 :=
  ⟨rfl, rfl, rfl, _, _, _, rfl, rfl, rfl⟩

/-- EventAfterReset: the flag high through and after a reset, with two, three and six cycles after it. -/
theorem test_witness_after_reset :
    (∃ t0 t1 t2 t3, runCycle { quiet with rst := true, adcDone := .high } State.reset = .next t0 ∧
      runCycle { quiet with adcDone := .high } t0 = .next t1 ∧ runCycle { quiet with adcDone := .high } t1 = .next t2 ∧
      runCycle { quiet with adcDone := .high } t2 = .next t3) ∧
    [2, 3, 6].map (fun n => validCycles (List.replicate n { quiet with adcDone := .high }) State.reset) = [0, 1, 1] :=
  ⟨⟨_, _, _, _, rfl, rfl, rfl, rfl⟩, by decide⟩

/-- OneEventPerConversion: the narrowest pulse with both draws, and a pulse without them, which counts once. -/
theorem test_witness_pulse :
    [FlagLevel.changing, .high, .changing, .low].map (fun l => ({ quiet with adcDone := l } : CycleInput).adcDone) =
      [(⟨true, 0, true, 0⟩ : Pulse)].flatMap Pulse.levels ∧
    (∀ c ∈ [FlagLevel.changing, .high, .changing, .low].map (fun l => ({ quiet with adcDone := l } : CycleInput)) ++
      [quiet, quiet], c.rst = false) ∧
    State.reset.sy1 = false ∧ State.reset.sy2 = false ∧ State.reset.sy3 = false ∧
    validCycles ([FlagLevel.high, .low].map (fun l => { quiet with adcDone := l }) ++ [quiet, quiet]) State.reset = 1 := by
  decide

/-- FairRunsShowState and NoSamplesNoLight: a tick in every cycle and the flag low for ever. -/
theorem test_witness_fair :
    Fair (fun _ => { quiet with refreshTick := true }) ∧
    NoSampleFrom (fun _ => { quiet with refreshTick := true }) State.reset 0 :=
  ⟨⟨⟨0, fun _ _ => rfl⟩, fun m => ⟨m, Nat.le_refl m, rfl⟩⟩,
    noSample_of_low _ _ 0 (fun _ => rfl) rfl rfl⟩

/-- ObservationsIgnoreSink: a run with a strobe, observed. -/
theorem test_witness_observed :
    observed (fun _ => quiet) { State.reset with sy2 := true } 0 = some ⟨0x00, some 0x00#8⟩ ∧
    observed (fun _ => { quiet with sinkTakes := true }) { State.reset with sy2 := true } 0 =
      some ⟨0x00, some 0x00#8⟩ := by decide

/-- ConfigurationRefusals: a configuration for each clause. -/
theorem test_witness_refusals :
    ¬ ({ Config.default with bounds := #v[0#8, 163#8, 175#8, 185#8, 205#8, 222#8, 240#8] } : Config).TableAscending ∧
    ({ Config.default with states := #v[.b123, .b12, .b13, .b1, .b23, .b2, .b2] } : Config).TableAscending ∧
    ¬ ({ Config.default with states := #v[.b123, .b12, .b13, .b1, .b23, .b2, .b2] } : Config).StatesCovered ∧
    ({ Config.default with ledPin := #v[0, 1, 8] } : Config).StatesCovered ∧
    ¬ ({ Config.default with ledPin := #v[0, 1, 8] } : Config).LedPinsOk ∧
    (throttled 0).LedPinsOk ∧ (throttled 0).throttle = 0 := by decide

end Sys2Proof.Tests
end

section
/-! The width of the throttle counter (R6, R13, R87) and the schedule of a clock cycle (R53, R100, R112). -/

namespace Sys2Proof.Machine

/-! ### The throttle counter -/

theorem cntW_le_iff (c : Config) (w : Nat) : c.cntW ≤ w ↔ c.throttle ≤ 2 ^ w :=
  Nat.clog_le_iff_le_pow Nat.one_lt_two

theorem cntW_of_throttle_one {c : Config} (h : c.throttle = 1) : c.cntW = 0 :=
  Nat.le_zero.1 ((cntW_le_iff c 0).2 h.le)

/-- Every count in `0 .. K-1` is a value of the register (R13). -/
theorem throttle_le_two_pow_cntW (c : Config) : c.throttle ≤ 2 ^ c.cntW := (cntW_le_iff c c.cntW).1 le_rfl

/-- Below `K` the register never wraps by itself: it is cleared at `K - 1` (R87), and before that `CNT + 1` is below `K`,
which fits in `CNT_W` bits. -/
theorem nextCount_toNat {c : Config} {n : BitVec c.cntW} (hn : n.toNat < c.throttle) :
    (nextCount c n).toNat = (n.toNat + 1) % c.throttle := by
  unfold nextCount
  split
  next hlast =>
    have hK : n.toNat + 1 = c.throttle := by omega
    simp [hK]
  next hlast =>
    have hlt : n.toNat + 1 < c.throttle := by omega
    have hfit : n.toNat + 1 < 2 ^ c.cntW := hlt.trans_le (throttle_le_two_pow_cntW c)
    have hpos : 0 < c.cntW := Nat.pos_of_ne_zero (Nat.one_lt_two_pow_iff.1 (by omega))
    have hone : (1 : BitVec c.cntW).toNat = 1 := BitVec.toNat_one hpos
    rw [Nat.mod_eq_of_lt hlt, BitVec.toNat_add_of_lt (by rwa [hone]), hone]

/-- Settles O45: the width is the least by `cntW_le_iff`, and the count is that of `nextCount_toNat`. -/
theorem counterFitsItsWidth : Obligations.CounterFitsItsWidth := by
  intro c _
  exact ⟨cntW_le_iff c, fun h => ⟨cntW_of_throttle_one h, fun _ => BitVec.eq_of_zero_length (cntW_of_throttle_one h)⟩,
    fun _ => nextCount_toNat⟩

/-! ### The schedule of a step -/

theorem step_of_inputs_cons {s : State} {i : Stimulus} {rest : List Stimulus} (h : s.inputs = i :: rest) :
    step s = perform i { s with inputs := rest } := by
  unfold step fetch
  rw [h]

theorem envWrite_envOf (c : CycleInput) (s : State) :
    envWrite (envOf c) s = if c.envWe then exec (.envport c.envData) s else .next s := by
  unfold envOf
  cases c.envWe <;> rfl

/-- Settles O1: `step` fetches the cycle, and `runCycle` runs its three parts in the order stated. -/
theorem cycleRunsDecodedEvent : Obligations.CycleRunsDecodedEvent := by
  intro s c rest h
  rw [step_of_inputs_cons h]
  simp only [perform, runCycle, envWrite_envOf, cycleWord, sampleValid, syncUnlessReset, deliver, tick]

end Sys2Proof.Machine
end

section
/-! Who writes what: the register write of each instruction (R10, R15), that no instruction reads the outputs and wires
(R17, R20, R21), and the invariant of the registers at power-on and over every step (R13, R41, R146). -/

namespace Sys2Proof.Machine

/-! ### The register write of an instruction -/

/-- The registers an instruction writes, its outputs and wires apart: the operations of R95, R85, R117, R145, R112 and
R100, and no register for every other row (log entry 10). `exec_eq_registerWrite` ties it to `exec`. -/
def registerWrite : Instr → State → State
  | .reset _ _ _ => clearRegisters
  | .refresh _ => refreshPort
  | .sample x => latchSample x
  | .sampleRefresh x => fun s => latchSample x (refreshPort s)
  | .sync a => shiftFlops a
  | .envport e => writeEnv e
  | _ => id

/-- Everything an instruction can do: it presents some outputs and wires (SYNC and ENVPORT those that were there) and
makes its register write. -/
theorem exec_eq_registerWrite (i : Instr) (s : State) :
    ∃ (p : Tap) (w : Wires s.cfg.portW), exec i s = .next (registerWrite i (present s p w)) := by
  cases i with
  | sync _ | envport _ => exact ⟨s.tap, s.wires, rfl⟩
  | _ => exact ⟨_, _, rfl⟩

theorem eq_registerWrite_of_exec {i : Instr} {s t : State} (h : exec i s = .next t) :
    ∃ (p : Tap) (w : Wires s.cfg.portW), t = registerWrite i (present s p w) := by
  obtain ⟨p, w, hi⟩ := exec_eq_registerWrite i s
  rw [hi] at h
  cases h
  exact ⟨p, w, rfl⟩

/-! ### The writers of each register -/

theorem registerWrite_state_cnt {i : Instr} (hs : ∀ x, i ≠ .sample x) (hsr : ∀ x, i ≠ .sampleRefresh x)
    (hr : ∀ v u x, i ≠ .reset v u x) (s : State) :
    (registerWrite i s).state = s.state ∧ (registerWrite i s).cnt.toNat = s.cnt.toNat := by
  cases i with
  | sample x => exact absurd rfl (hs x)
  | sampleRefresh x => exact absurd rfl (hsr x)
  | reset v u x => exact absurd rfl (hr v u x)
  | _ => exact ⟨rfl, rfl⟩

theorem registerWrite_flops {i : Instr} (ha : ∀ a, i ≠ .sync a) (hr : ∀ v u x, i ≠ .reset v u x) (s : State) :
    (registerWrite i s).sy1 = s.sy1 ∧ (registerWrite i s).sy2 = s.sy2 ∧ (registerWrite i s).sy3 = s.sy3 := by
  cases i with
  | sync a => exact absurd rfl (ha a)
  | reset v u x => exact absurd rfl (hr v u x)
  | _ => exact ⟨rfl, rfl, rfl⟩

/-- Settles O24: beside its outputs and wires, which are no registers, an instruction changes what it writes only. -/
theorem registerWriters : Obligations.RegisterWriters := by
  intro i s t h
  obtain ⟨p, w, rfl⟩ := eq_registerWrite_of_exec h
  exact ⟨fun hs hsr hr => registerWrite_state_cnt hs hsr hr (present s p w),
    fun ha hr => registerWrite_flops ha hr (present s p w)⟩

/-! ### The writers of the port's bits -/

/-- There is no pin at or above `PORT_W` (R14). -/
theorem portBit_of_ge {s : State} {n : Nat} (h : s.cfg.portW ≤ n) : portBit s n = false :=
  BitVec.getLsbD_of_ge s.port n h

theorem portBit_writeEnv_ledPin {s : State} {n : Nat} (hn : IsLedPin s.cfg n) (e : Nat) :
    portBit (writeEnv e s) n = portBit s n := by
  by_cases hw : n < s.cfg.portW
  · rw [portBit_writeEnv, if_pos ((ledMask_iff s.cfg n).2 ⟨hw, hn⟩)]
  · have hge : s.cfg.portW ≤ n := not_lt.1 hw
    rw [portBit_of_ge hge, portBit_of_ge (s := writeEnv e s) hge]

theorem portBit_refreshPort_other {s : State} {n : Nat} (hn : ¬ IsLedPin s.cfg n) :
    portBit (refreshPort s) n = portBit s n := by
  simp [portBit_refreshPort, ledMask_other hn]

theorem portBit_clearRegisters_other {s : State} {n : Nat} (hn : ¬ IsLedPin s.cfg n) :
    portBit (clearRegisters s) n = portBit s n := by
  simp [portBit_clearRegisters, ledMask_other hn]

theorem portBit_registerWrite_ledPin {i : Instr} {s : State} {n : Nat} (hn : IsLedPin s.cfg n)
    (hf : ∀ x, i ≠ .refresh x) (hsr : ∀ x, i ≠ .sampleRefresh x) (hr : ∀ v u x, i ≠ .reset v u x) :
    portBit (registerWrite i s) n = portBit s n := by
  cases i with
  | refresh x => exact absurd rfl (hf x)
  | sampleRefresh x => exact absurd rfl (hsr x)
  | reset v u x => exact absurd rfl (hr v u x)
  | envport e => exact portBit_writeEnv_ledPin hn e
  | _ => rfl

theorem portBit_registerWrite_other {i : Instr} {s : State} {n : Nat} (hn : ¬ IsLedPin s.cfg n)
    (he : ∀ e, i ≠ .envport e) : portBit (registerWrite i s) n = portBit s n := by
  cases i with
  | envport e => exact absurd rfl (he e)
  | reset _ _ _ => exact portBit_clearRegisters_other hn
  | refresh _ | sampleRefresh _ => exact portBit_refreshPort_other hn
  | _ => rfl

/-- Settles O25: a port write of the LED encoder keeps the bits outside the mask, ENVPORT those inside it. -/
theorem portBitWriters : Obligations.PortBitWriters := by
  intro i s t h n
  obtain ⟨p, w, rfl⟩ := eq_registerWrite_of_exec h
  exact ⟨fun hn hf hsr hr => portBit_registerWrite_ledPin (s := present s p w) hn hf hsr hr,
    fun hn he => portBit_registerWrite_other (s := present s p w) hn he⟩

/-! ### Outputs and wires are not read -/

@[simp] theorem present_present (s : State) (p p' : Tap) (w w' : Wires s.cfg.portW) :
    present (present s p w) p' w' = present s p' w' := rfl

/-- A register write commutes with a change of the outputs and wires (R17, R20, R21). -/
theorem registerWrite_present (i : Instr) (s : State) (p : Tap) (w : Wires s.cfg.portW) :
    ∃ w' : Wires (registerWrite i s).cfg.portW,
      registerWrite i (present s p w) = present (registerWrite i s) p w' := by
  cases i <;> exact ⟨w, rfl⟩

/-- Settles O26: both runs make the same register write, on states that differ in the outputs and wires only. -/
theorem wiresAreNeverRead : Obligations.WiresAreNeverRead := by
  intro i s t p w h
  obtain ⟨q, v, rfl⟩ := eq_registerWrite_of_exec h
  obtain ⟨p', v', hrun⟩ := exec_eq_registerWrite i (present s p w)
  obtain ⟨w', hw'⟩ := registerWrite_present i (present s q v) p' v'
  refine ⟨p', w', ?_⟩
  calc exec i (present s p w)
      = .next (registerWrite i (present (present s q v) p' v')) := hrun
    _ = .next (present (registerWrite i (present s q v)) p' w') := by rw [hw']

/-! ### What every instruction keeps, every step keeps -/

/-- A property of states that every part of a step keeps: the instructions, the sink's part, the count of the steps and
the taking of the next stimulus. -/
structure KeptByParts (P : State → Prop) : Prop where
  exec : ∀ {i s t}, P s → exec i s = .next t → P t
  deliver : ∀ {b s}, P s → P (deliver b s)
  tick : ∀ {s}, P s → P (tick s)
  inputs : ∀ {s : State} {l : List Stimulus}, P s → P { s with inputs := l }

namespace KeptByParts

variable {P : State → Prop} (k : KeptByParts P) {s t : State}
include k

theorem envWrite {e : Option Nat} (hs : P s) (h : envWrite e s = .next t) : P t := by
  cases e with
  | some e => exact k.exec (i := .envport e) hs h
  | none => cases h; exact hs

theorem syncUnlessReset {c : CycleInput} {n : Nat} (hs : P s) (h : syncUnlessReset c n s = .next t) : P t := by
  unfold Machine.syncUnlessReset at h
  split at h
  · cases h; exact hs
  · exact k.exec hs h

theorem runCycle {c : CycleInput} (hs : P s) (h : runCycle c s = .next t) : P t := by
  obtain ⟨s1, h1, h⟩ := andThen_eq_next h
  obtain ⟨s2, h2, h⟩ := andThen_eq_next h
  obtain ⟨s3, h3, h⟩ := andThen_eq_next h
  cases h
  exact k.tick (k.deliver (k.envWrite (k.syncUnlessReset (k.exec hs h1) h2) h3))

theorem runLine {l : TraceLine} (hs : P s) (h : runLine l s = .next t) : P t := by
  obtain ⟨s1, h1, h⟩ := andThen_eq_next h
  obtain ⟨s2, h2, h⟩ := andThen_eq_next h
  cases h
  exact k.tick (k.envWrite (k.exec hs h1) h2)

theorem runWord {f : Format} {w : Nat} (hs : P s) (h : runWord f w s = .next t) : P t := by
  unfold Machine.runWord at h
  split at h
  · obtain ⟨s1, h1, h⟩ := andThen_eq_next h
    cases h
    exact k.tick (k.exec hs h1)
  · cases h
    exact k.tick hs

theorem perform {i : Stimulus} (hs : P s) (h : perform i s = .next t) : P t := by
  cases i with
  | cycle c => exact k.runCycle hs h
  | line l => exact k.runLine hs h
  | word f w => exact k.runWord hs h

theorem fetch (hs : P s) : P (fetch s).2 := by
  unfold Machine.fetch
  split
  · exact hs
  · exact k.inputs hs

theorem step (hs : P s) (h : step s = .next t) : P t := k.perform (k.fetch hs) h

end KeptByParts

/-! ### The invariant of the registers -/

theorem nextCount_lt {c : Config} {n : BitVec c.cntW} (hn : n.toNat < c.throttle) :
    (nextCount c n).toNat < c.throttle := by
  rw [nextCount_toNat hn]
  exact Nat.mod_lt _ (Nat.zero_lt_of_lt hn)

theorem inv_latchSample {s : State} (x : Byte) (h : s.Inv) : (latchSample x s).Inv := ⟨h.1, nextCount_lt h.2⟩

theorem inv_clearRegisters {s : State} (h : s.Inv) : (clearRegisters s).Inv :=
  ⟨h.1, by simpa using Nat.zero_lt_of_lt h.2⟩

theorem inv_registerWrite {s : State} (i : Instr) (h : s.Inv) : (registerWrite i s).Inv := by
  cases i with
  | reset _ _ _ => exact inv_clearRegisters h
  | sample x | sampleRefresh x => exact inv_latchSample x h
  | _ => exact h

theorem inv_of_exec {i : Instr} {s t : State} (hs : s.Inv) (h : exec i s = .next t) : t.Inv := by
  obtain ⟨p, w, rfl⟩ := eq_registerWrite_of_exec h
  exact inv_registerWrite i (s := present s p w) hs

/-- `deliver`, `tick` and the taking of a stimulus leave `cfg` and `CNT` as they are. -/
theorem inv_keptByParts : KeptByParts State.Inv where
  exec := inv_of_exec
  deliver hs := hs
  tick hs := hs
  inputs hs := hs

/-- Settles O28: of the parts of a step only an instruction can touch the invariant, and its register write keeps `CNT`
below `K`. -/
theorem stepKeepsInvariant : Obligations.StepKeepsInvariant := fun _ _ hs h => inv_keptByParts.step hs h

/-! ### Power-on -/

/-- Settles O8: the pattern of NONE in the default configuration has no LED bit at 1. -/
theorem resetStateIsPowerOn : Obligations.ResetStateIsPowerOn := ⟨rfl, rfl⟩

theorem wellFormed_default : Config.default.WellFormed := by decide

theorem inv_powerOn {c : Config} (other : BitVec c.portW) (h : c.WellFormed) : (powerOn c other).Inv := by
  have ⟨_, _, _, (hK : 0 < c.throttle)⟩ := h
  exact ⟨h, hK⟩

/-- Settles O29: `State.reset` is a power-on state by O8, and the default configuration is well-formed. -/
theorem invariantAtPowerOn : Obligations.InvariantAtPowerOn := by
  refine ⟨fun _ other h => inv_powerOn other h, ?_⟩
  rw [resetStateIsPowerOn.1]
  exact inv_powerOn _ wellFormed_default

end Sys2Proof.Machine
end

section
/-! What no event changes: the configuration over a step (R41), and the port a refresh would give over IDLE, SYNC and
REFRESH (R35, R80, R95). -/

namespace Sys2Proof.Machine

/-! ### The configuration -/

@[simp] theorem registerWrite_cfg (i : Instr) (s : State) : (registerWrite i s).cfg = s.cfg := by
  cases i <;> rfl

theorem exec_cfg {i : Instr} {s t : State} (h : exec i s = .next t) : t.cfg = s.cfg := by
  obtain ⟨p, w, rfl⟩ := eq_registerWrite_of_exec h
  exact registerWrite_cfg i (present s p w)

theorem cfg_keptByParts (c : Config) : KeptByParts fun s => s.cfg = c where
  exec hs h := (exec_cfg h).trans hs
  deliver hs := hs
  tick hs := hs
  inputs hs := hs

/-- Settles O23: no register write touches `cfg`, nor does any other part of a step. -/
theorem tablesAreConstant : Obligations.TablesAreConstant := fun s _ h => (cfg_keptByParts s.cfg).step rfl h

/-! ### Refresh after refresh -/

/-- The encoder overwrites every bit it took from an earlier state (R80). -/
@[simp] theorem encodePort_encodePort (c : Config) (q1 q2 : Code) (p : BitVec c.portW) :
    encodePort c q2 (encodePort c q1 p) = encodePort c q2 p := by
  refine BitVec.eq_of_getLsbD_eq fun n _ => ?_
  simp only [encodePort_getLsbD]
  split <;> rfl

@[simp] theorem refreshPort_refreshPort (s : State) : refreshPort (refreshPort s) = refreshPort s := by
  simp [refreshPort]

/-- A property that each event of a list keeps holds after the run of the list. -/
theorem runEvents_keeps {P : State → Prop} {is : List Instr}
    (hstep : ∀ i ∈ is, ∀ s t, P s → exec i s = .next t → P t) {s t : State} (hs : P s)
    (h : runEvents is s = .next t) : P t := by
  induction is generalizing s with
  | nil => cases h; exact hs
  | cons i rest ih =>
    obtain ⟨s1, h1, hrest⟩ := andThen_eq_next h
    exact ih (fun j hj => hstep j (.tail i hj)) (hstep i (.head rest) s s1 hs h1) hrest

theorem portBit_of_exec_refresh {x : Byte} {s t : State} (h : exec (.refresh x) s = .next t) (n : Nat) :
    portBit t n = portBit (refreshPort s) n := by
  cases h
  rfl

/-- IDLE, SYNC and REFRESH leave unchanged what a refresh after them gives: they keep STATE, and a refresh already done
adds nothing. -/
theorem portBit_refreshPort_of_exec {i : Instr} (hi : (∃ z, i = .idle z) ∨ (∃ a, i = .sync a) ∨ ∃ z, i = .refresh z)
    {s t : State} (h : exec i s = .next t) (n : Nat) : portBit (refreshPort t) n = portBit (refreshPort s) n := by
  obtain ⟨p, w, rfl⟩ := eq_registerWrite_of_exec h
  obtain ⟨z, rfl⟩ | ⟨a, rfl⟩ | ⟨z, rfl⟩ := hi
  · rfl
  · rfl
  · calc portBit (refreshPort (refreshPort (present s p w))) n
        = portBit (refreshPort (present s p w)) n := by rw [refreshPort_refreshPort]
      _ = portBit (refreshPort s) n := rfl

/-- Settles O41: the port a refresh would give is the same before and after the run between the two, and the first
refresh has given it. -/
theorem refreshIsIdempotent : Obligations.RefreshIsIdempotent := by
  intro x y s t t' u between hbetween hfirst hrun hsecond n
  have hkept : portBit (refreshPort t') n = portBit (refreshPort s) n :=
    runEvents_keeps (P := fun r => portBit (refreshPort r) n = portBit (refreshPort s) n)
      (fun i hi _ _ hr h => (portBit_refreshPort_of_exec (hbetween i hi) h n).trans hr)
      (portBit_refreshPort_of_exec (.inr (.inr ⟨x, rfl⟩)) hfirst n) hrun
  calc portBit u n
      = portBit (refreshPort t') n := portBit_of_exec_refresh hsecond n
    _ = portBit (refreshPort s) n := hkept
    _ = portBit t n := (portBit_of_exec_refresh hfirst n).symm

end Sys2Proof.Machine
end

section
/-! The words of the operation table: what the decoder reads on the wires of each format (R45, R46, R50, R52, R53, R59,
R65, R75, R100, R112), and that decoder and encoder are inverse to each other. -/

namespace Sys2Proof.Machine

/-! ### What a number on the wires of a format decodes to -/

theorem lt_of_decodeWord {portW w : Nat} {f : Format} {i : Instr} (h : decodeWord portW f w = .ok i) :
    w < 2 ^ f.width portW := by
  by_contra hw
  simp [decodeWord, not_lt.1 hw] at h

section

variable (portW : Nat)

theorem decodeWord_event (w : EventWord) : decodeWord portW .event w.toNat = .ok (decodeEvent w) := by
  simp [decodeWord, Format.width, w.isLt]

theorem decodeWord_classify (x : Byte) : decodeWord portW .classify x.toNat = .ok (.classify x) := by
  simp [decodeWord, Format.width, x.isLt]

/-- The state code stands above the `PORT_W` bits of the port operand (R75). -/
theorem decodeWord_encode (q : Code) {c : Nat} (hc : c < 2 ^ portW) :
    decodeWord portW .encode (q.toNat * 2 ^ portW + c) = .ok (.encode q c) := by
  have hfits : q.toNat * 2 ^ portW + c < 2 ^ (3 + portW) := Laws.FitsWidth.encode q c portW (decide_eq_true hc)
  have hcode : (q.toNat * 2 ^ portW + c) / 2 ^ portW = q.toNat := by
    rw [Nat.add_comm, Nat.add_mul_div_right _ _ (Nat.two_pow_pos portW), Nat.div_eq_of_lt hc, Nat.zero_add]
  have hport : (q.toNat * 2 ^ portW + c) % 2 ^ portW = c := Nat.mul_add_mod_of_lt hc
  simp [decodeWord, Format.width, hfits, hcode, hport]

theorem decodeWord_sync (a : Bool) : decodeWord portW .sync a.toNat = .ok (.sync a) := by
  cases a <;> rfl

/-- `env_we = 1` stands above the `PORT_W` bits of the data (R100). -/
theorem decodeWord_envport {e : Nat} (he : e < 2 ^ portW) :
    decodeWord portW .envport (2 ^ portW + e) = .ok (.envport e) := by
  have hfits : 2 ^ portW + e < 2 ^ (1 + portW) := Laws.FitsWidth.envport e portW (decide_eq_true he)
  simp [decodeWord, Format.width, hfits]

theorem decodeWord_stateCode (q : Code) : decodeWord portW .stateCode q.toNat = .ok (decodeStateCode q) := by
  simp [decodeWord, Format.width, q.isLt]

theorem decodeWord_comparatorVector (v : Byte) :
    decodeWord portW .comparatorVector v.toNat = decodeComparatorVector v := by
  simp [decodeWord, Format.width, v.isLt]

theorem decodeWord_ledLut (q : Code) : decodeWord portW .ledLut q.toNat = .ok (decodeLedLut q) := by
  simp [decodeWord, Format.width, q.isLt]

theorem decodeWord_thresholdEntry {w : Nat} (hw : w < 2 ^ 11) :
    decodeWord portW .thresholdEntry w = decodeThresholdEntry w :=
  if_neg (not_le.2 hw)

end

/-! ### The rows of the comparator vector -/

/-- The bits up to the lowest 1 select the row, the bits above it are its operand (R59). -/
theorem decodeComparatorVector_rows :
    (∀ x, decodeComparatorVector (x ++ 0b1#1) = .ok (.penc0 x)) ∧
    (∀ x, decodeComparatorVector (x ++ 0b10#2) = .ok (.penc1 x)) ∧
    (∀ x, decodeComparatorVector (x ++ 0b100#3) = .ok (.penc2 x)) ∧
    (∀ x, decodeComparatorVector (x ++ 0b1000#4) = .ok (.penc3 x)) ∧
    (∀ x, decodeComparatorVector (x ++ 0b10000#5) = .ok (.penc4 x)) ∧
    (∀ x, decodeComparatorVector (x ++ 0b100000#6) = .ok (.penc5 x)) ∧
    (∀ x, decodeComparatorVector (x ++ 0b1000000#7) = .ok (.penc6 x)) ∧
    decodeComparatorVector 0b10000000#8 = .ok .penc7 := by
  decide

/-! ### Decoding what was encoded -/

/-- Settles O5: each format's decoder finds the fields where `encodeWord` put them. -/
theorem decodeOfEncode : Obligations.DecodeOfEncode := by
  obtain ⟨h0, h1, h2, h3, h4, h5, h6, h7⟩ := decodeComparatorVector_rows
  intro portW i hi
  cases i with
  | reset _ _ _ | idle _ | refresh _ | sample _ | sampleRefresh _ =>
    exact (decodeWord_event portW _).trans (congrArg Except.ok (decodeEvent_fields ..))
  | classify x => exact decodeWord_classify portW x
  | encode q c => exact decodeWord_encode portW q (of_decide_eq_true hi)
  | sync a => exact decodeWord_sync portW a
  | envport e => exact decodeWord_envport portW (of_decide_eq_true hi)
  | penc0 x => exact (decodeWord_comparatorVector portW _).trans (h0 x)
  | penc1 x => exact (decodeWord_comparatorVector portW _).trans (h1 x)
  | penc2 x => exact (decodeWord_comparatorVector portW _).trans (h2 x)
  | penc3 x => exact (decodeWord_comparatorVector portW _).trans (h3 x)
  | penc4 x => exact (decodeWord_comparatorVector portW _).trans (h4 x)
  | penc5 x => exact (decodeWord_comparatorVector portW _).trans (h5 x)
  | penc6 x => exact (decodeWord_comparatorVector portW _).trans (h6 x)
  | penc7 => exact (decodeWord_comparatorVector portW _).trans h7
  | _ => rfl

/-! ### Encoding what was decoded -/

theorem eventWordOf_fields (w : EventWord) : eventWordOf w[10] w[9] w[8] (w.extractLsb' 0 8) = w := by
  refine BitVec.eq_of_getLsbD_eq fun i hi => ?_
  change BitVec.getLsbD (w := 1 + 1 + 1 + 8) (_ ++ _) i = _
  simp only [BitVec.getLsbD_append]
  interval_cases i <;> simp [BitVec.getLsbD_eq_getElem]

/-- A word is its bits from `k` up over its low `k` bits. -/
theorem eq_append_of_low {m k : Nat} {v : BitVec (m + k)} {y : BitVec k} (h : v.extractLsb' 0 k = y) :
    ∃ x : BitVec m, v = x ++ y := by
  refine ⟨v.extractLsb' k m, ?_⟩
  rw [← h, BitVec.extractLsb'_append_extractLsb'_eq_extractLsb' (Nat.zero_add k).symm, BitVec.extractLsb'_eq_self]

/-- Every vector other than 0 is in a row of R59, by its low bits. -/
theorem comparatorVector_row {v : Byte} (hv : v ≠ 0) :
    v.extractLsb' 0 1 = 0b1#1 ∨ v.extractLsb' 0 2 = 0b10#2 ∨ v.extractLsb' 0 3 = 0b100#3 ∨
    v.extractLsb' 0 4 = 0b1000#4 ∨ v.extractLsb' 0 5 = 0b10000#5 ∨ v.extractLsb' 0 6 = 0b100000#6 ∨
    v.extractLsb' 0 7 = 0b1000000#7 ∨ v = 0b10000000#8 := by
  revert v
  decide

/-- `i` is a well-formed instruction whose word is `w` on the wires of `f`. -/
def IsWordOf (portW : Nat) (f : Format) (w : Nat) (i : Instr) : Prop :=
  encodeWord portW i = ⟨f, w⟩ ∧ i.wellFormed portW = true

/-- A word decodes to any instruction it is the word of, so to the only one. -/
theorem isWordOf_decoded {portW w : Nat} {f : Format} {i : Instr} (h : decodeWord portW f w = .ok i)
    (hj : ∃ j, IsWordOf portW f w j) : IsWordOf portW f w i := by
  obtain ⟨j, hword, hwf⟩ := hj
  have hdecode : decodeWord portW f w = .ok j := by simpa [hword] using decodeOfEncode portW j hwf
  cases h.symm.trans hdecode
  exact ⟨hword, hwf⟩

section

variable (portW : Nat)

theorem isWordOf_decodeEvent (w : EventWord) : IsWordOf portW .event w.toNat (decodeEvent w) := by
  rw [← eventWordOf_fields w, decodeEvent_fields]
  cases w[10] <;> cases w[9] <;> cases w[8] <;> exact ⟨rfl, rfl⟩

theorem isWordOf_decodeStateCode (q : Code) : IsWordOf portW .stateCode q.toNat (decodeStateCode q) := by
  fin_cases q <;> exact ⟨rfl, rfl⟩

theorem isWordOf_decodeLedLut (q : Code) : IsWordOf portW .ledLut q.toNat (decodeLedLut q) := by
  fin_cases q <;> exact ⟨rfl, rfl⟩

theorem exists_isWordOf_encode {w : Nat} (hw : w < 2 ^ (3 + portW)) : ∃ i, IsWordOf portW .encode w i := by
  have hcode : w / 2 ^ portW < 2 ^ 3 := Nat.div_lt_of_lt_mul (by rwa [Nat.mul_comm, ← Nat.pow_add])
  refine ⟨.encode (BitVec.ofNatLT (w / 2 ^ portW) hcode) (w % 2 ^ portW), ?_,
    decide_eq_true (Nat.mod_lt w (Nat.two_pow_pos portW))⟩
  rw [encodeWord, BitVec.toNat_ofNatLT, Nat.div_add_mod']

theorem exists_isWordOf_sync {w : Nat} (hw : w < 2 ^ 1) : ∃ i, IsWordOf portW .sync w i := by
  interval_cases w
  · exact ⟨.sync false, rfl, rfl⟩
  · exact ⟨.sync true, rfl, rfl⟩

theorem exists_isWordOf_envport {w : Nat} (hw : w < 2 ^ (1 + portW)) (hwe : 2 ^ portW ≤ w) :
    ∃ i, IsWordOf portW .envport w i := by
  have hdata : w - 2 ^ portW < 2 ^ portW := by
    rw [Nat.pow_add] at hw
    omega
  refine ⟨.envport (w - 2 ^ portW), ?_, decide_eq_true hdata⟩
  rw [encodeWord, Nat.add_sub_cancel' hwe]

theorem exists_isWordOf_comparatorVector {v : Byte} (hv : v ≠ 0) : ∃ i, IsWordOf portW .comparatorVector v.toNat i := by
  obtain h | h | h | h | h | h | h | rfl := comparatorVector_row hv
  · obtain ⟨x, rfl⟩ := eq_append_of_low (m := 7) h
    exact ⟨.penc0 x, rfl, rfl⟩
  · obtain ⟨x, rfl⟩ := eq_append_of_low (m := 6) h
    exact ⟨.penc1 x, rfl, rfl⟩
  · obtain ⟨x, rfl⟩ := eq_append_of_low (m := 5) h
    exact ⟨.penc2 x, rfl, rfl⟩
  · obtain ⟨x, rfl⟩ := eq_append_of_low (m := 4) h
    exact ⟨.penc3 x, rfl, rfl⟩
  · obtain ⟨x, rfl⟩ := eq_append_of_low (m := 3) h
    exact ⟨.penc4 x, rfl, rfl⟩
  · obtain ⟨x, rfl⟩ := eq_append_of_low (m := 2) h
    exact ⟨.penc5 x, rfl, rfl⟩
  · obtain ⟨x, rfl⟩ := eq_append_of_low (m := 1) h
    exact ⟨.penc6 x, rfl, rfl⟩
  · exact ⟨.penc7, rfl, rfl⟩

theorem isWordOf_decodeThresholdEntry {w : Nat} {i : Instr} (h : decodeThresholdEntry w = .ok i) :
    IsWordOf portW .thresholdEntry w i := by
  unfold decodeThresholdEntry at h
  split_ifs at h <;> cases h <;> subst w <;> exact ⟨rfl, rfl⟩

end

/-- The decoder refuses every number that is no word: what it accepts is the word of some instruction. -/
theorem exists_isWordOf {portW w : Nat} {f : Format} {i : Instr} (h : decodeWord portW f w = .ok i) :
    ∃ j, IsWordOf portW f w j := by
  have hw : w < 2 ^ f.width portW := lt_of_decodeWord h
  cases f with
  | event =>
    obtain ⟨v, rfl⟩ : ∃ v : EventWord, v.toNat = w := ⟨BitVec.ofNatLT w hw, rfl⟩
    exact ⟨_, isWordOf_decodeEvent portW v⟩
  | classify => exact ⟨.classify (BitVec.ofNatLT w hw), rfl, rfl⟩
  | encode => exact exists_isWordOf_encode portW hw
  | sync => exact exists_isWordOf_sync portW hw
  | envport =>
    refine exists_isWordOf_envport portW hw (not_lt.1 fun hlow => ?_)
    simp [decodeWord, not_le.2 hw, hlow] at h
  | stateCode =>
    obtain ⟨q, rfl⟩ : ∃ q : Code, q.toNat = w := ⟨BitVec.ofNatLT w hw, rfl⟩
    exact ⟨_, isWordOf_decodeStateCode portW q⟩
  | comparatorVector =>
    obtain ⟨v, rfl⟩ : ∃ v : Byte, v.toNat = w := ⟨BitVec.ofNatLT w hw, rfl⟩
    refine exists_isWordOf_comparatorVector portW fun hzero => ?_
    subst hzero
    cases (decodeWord_comparatorVector portW 0).symm.trans h
  | ledLut =>
    obtain ⟨q, rfl⟩ : ∃ q : Code, q.toNat = w := ⟨BitVec.ofNatLT w hw, rfl⟩
    exact ⟨_, isWordOf_decodeLedLut portW q⟩
  | thresholdEntry =>
    exact ⟨i, isWordOf_decodeThresholdEntry portW ((decodeWord_thresholdEntry portW hw).symm.trans h)⟩

/-- Settles O6: a word that decodes is the word of some instruction, and by O5 it decodes to that one. -/
theorem encodeOfDecode : Obligations.EncodeOfDecode := fun _ _ _ _ h => isWordOf_decoded h (exists_isWordOf h)

/-! ### Words written out -/

/-- Settles O3: twelve closed decodings. -/
theorem knownWordsDecode : Obligations.KnownWordsDecode :=
  ⟨rfl, rfl, rfl, rfl, rfl, rfl, rfl, rfl, rfl, rfl, rfl, rfl⟩

/-- Settles O4: the events are the cases of `decodeEvent_fields`. -/
theorem eventDecodeComplete : Obligations.EventDecodeComplete :=
  ⟨eventWordOf_fields, fun _ _ _ => ⟨decodeEvent_fields .., decodeEvent_fields .., decodeEvent_fields ..,
    decodeEvent_fields .., decodeEvent_fields ..⟩⟩

end Sys2Proof.Machine
end

section
/-! The rows of the table by themselves (R45, R50, R59, R49), the comparator vectors (R66), the refusals of a configuration
(R55) and the stimuli other than a scheduled cycle (R57). -/

namespace Sys2Proof.Machine

/-! ### The other stimuli of a step -/

theorem step_of_inputs_nil {s : State} (h : s.inputs = []) : step s = perform (.cycle (Config.freeCycle s.cycle)) s := by
  unfold step fetch
  rw [h]

theorem runWord_of_ok {s : State} {f : Format} {w : Nat} {i : Instr} (h : decodeWord s.cfg.portW f w = .ok i) :
    runWord f w s = andThen (exec i s) fun t => .next (tick t) := by
  unfold runWord
  rw [h]

theorem runWord_of_error {s : State} {f : Format} {w : Nat} {e : DecodeError}
    (h : decodeWord s.cfg.portW f w = .error e) : runWord f w s = .next (tick s) := by
  unfold runWord
  rw [h]

/-- Settles O2: the step performs the stimulus at the head of the schedule, or the free cycle on the state as it is. -/
theorem otherStimuliRunDecodedWord : Obligations.OtherStimuliRunDecodedWord := by
  refine ⟨fun s l rest h => ?_, fun s f w i rest h hi => ?_, fun s f w e rest h he => ?_, fun s h => ?_⟩
  · rw [step_of_inputs_cons h]
    rfl
  · rw [step_of_inputs_cons h]
    exact runWord_of_ok (s := { s with inputs := rest }) hi
  · rw [step_of_inputs_cons h]
    exact runWord_of_error (s := { s with inputs := rest }) he
  · have hs : { s with inputs := [] } = s := by rw [← h]
    rw [step_of_inputs_nil h, step_of_inputs_cons (s := { s with inputs := [_] }) rfl, hs]

/-! ### The rows of codes and tables -/

/-- Settles O18: the symbol of each code is a closed value of `symbolOf`. -/
theorem stateCodeRows : Obligations.StateCodeRows :=
  fun _ => ⟨rfl, rfl, rfl, rfl, rfl, rfl, rfl, rfl⟩

/-- The least line at 1 is the bucket, whatever the lines above it are (R59, R67). -/
theorem priorityEncode_rows :
    (∀ x : BitVec 7, priorityEncode (x ++ 0b1#1) = 0) ∧ (∀ x : BitVec 6, priorityEncode (x ++ 0b10#2) = 1) ∧
    (∀ x : BitVec 5, priorityEncode (x ++ 0b100#3) = 2) ∧ (∀ x : BitVec 4, priorityEncode (x ++ 0b1000#4) = 3) ∧
    (∀ x : BitVec 3, priorityEncode (x ++ 0b10000#5) = 4) ∧ (∀ x : BitVec 2, priorityEncode (x ++ 0b100000#6) = 5) ∧
    (∀ x : BitVec 1, priorityEncode (x ++ 0b1000000#7) = 6) ∧ priorityEncode 0b10000000#8 = 7 := by
  decide

/-- A row completes with the bucket of its vector and the state selected by it. -/
theorem next_showVector {v : Byte} {b : Code} (h : priorityEncode v = b) (s : State) :
    Host.Outcome.next (φ := Fault) (ρ := Refusal) (showVector v s) = .next { s with
      wires := { Wires.off s.cfg.portW with
        bank := some v, bucket := some b, symbol := some (selectState s.cfg b) } } := by
  subst h
  rfl

/-- Settles O19: each row puts its vector on the encoder, which answers the row's bucket. -/
theorem priorityEncoderRows : Obligations.PriorityEncoderRows := by
  obtain ⟨h0, h1, h2, h3, h4, h5, h6, h7⟩ := priorityEncode_rows
  exact fun s => ⟨fun x => next_showVector (h0 x) s, fun x => next_showVector (h1 x) s,
    fun x => next_showVector (h2 x) s, fun x => next_showVector (h3 x) s, fun x => next_showVector (h4 x) s,
    fun x => next_showVector (h5 x) s, fun x => next_showVector (h6 x) s, next_showVector h7 s⟩

/-- The default table shows in each state its own code (R50). -/
theorem lut_default : ∀ q : Code, Config.default.lut q = q := by decide

/-- Settles O20: each row is the look-up of its state's code. -/
theorem ledLutRows : Obligations.LedLutRows :=
  ⟨fun _ => ⟨rfl, rfl, rfl, rfl, rfl, rfl, rfl, rfl⟩, lut_default⟩

/-- Settles O21: each row is the look-up of its entry, and the seven words of `TABLE_D` are calculated. -/
theorem thresholdRows : Obligations.ThresholdRows :=
  ⟨fun _ => ⟨rfl, rfl, rfl, rfl, rfl, rfl, rfl⟩, rfl⟩

/-! ### The comparator vectors -/

theorem comparator_eq_decide (c : Config) (x : Byte) (i : Fin 7) :
    comparator c x i = decide (x.toNat < (c.bound i).toNat) := BitVec.ult_eq_decide

theorem comparatorBank_getLsbD (c : Config) (x : Byte) (i : Fin 7) :
    (comparatorBank c x).getLsbD i.val = comparator c x i := by
  obtain ⟨h0, h1, h2, h3, h4, h5, h6, -⟩ := comparatorBank_getElem c x
  fin_cases i
  · exact h0
  · exact h1
  · exact h2
  · exact h3
  · exact h4
  · exact h5
  · exact h6

theorem comparatorBank_getLsbD_seven (c : Config) (x : Byte) : (comparatorBank c x).getLsbD 7 = true := by
  obtain ⟨-, -, -, -, -, -, -, h7⟩ := comparatorBank_getElem c x
  exact h7

/-- Over an ascending table a comparator at 1 has the next one at 1 (R47). -/
theorem comparator_succ {c : Config} (h : c.TableAscending) {x : Byte} (i : Fin 6)
    (hi : comparator c x i.castSucc = true) : comparator c x i.succ = true := by
  rw [comparator_eq_decide, decide_eq_true_iff] at hi ⊢
  exact hi.trans (h.2 i)

/-- A vector whose lines stay at 1 from the first 1 up is a thermometer vector (R66). -/
theorem thermometer_of_monotone {v : Byte} (hstep : ∀ i : Fin 6, v.getLsbD i.val = true → v.getLsbD (i.val + 1) = true)
    (htop : v.getLsbD 7 = true) : v ∈ [0b11111111#8, 0b11111110#8, 0b11111100#8, 0b11111000#8,
      0b11110000#8, 0b11100000#8, 0b11000000#8, 0b10000000#8] := by
  revert v
  decide

/-- Settles O34: the lines are the comparators, and over an ascending table they can only rise along the vector. -/
theorem comparatorVectors : Obligations.ComparatorVectors := by
  intro c x
  refine ⟨fun i => (comparatorBank_getLsbD c x i).trans (comparator_eq_decide c x i), comparatorBank_getLsbD_seven c x,
    fun ⟨hascending, _⟩ => thermometer_of_monotone (fun i hi => ?_) (comparatorBank_getLsbD_seven c x)⟩
  have hline : comparator c x i.castSucc = true := (comparatorBank_getLsbD c x i.castSucc).symm.trans hi
  exact (comparatorBank_getLsbD c x i.succ).trans (comparator_succ hascending i hline)

/-! ### The refusals of a configuration -/

theorem build_of_check_none {c : Config} (h : c.check = none) (other : BitVec c.portW) :
    build c other = .ok (powerOn c other) := by
  unfold build
  rw [h]

theorem build_of_check_some {c : Config} {r : ConfigRefusal} (h : c.check = some r) (other : BitVec c.portW) :
    build c other = .error r := by
  unfold build
  rw [h]

theorem check_of_wellFormed {c : Config} (h : c.WellFormed) : c.check = none := by
  obtain ⟨hascending, hcovered, hpins, hthrottle⟩ := h
  unfold Config.check
  rw [if_neg (not_not.2 hascending), if_neg (not_not.2 hcovered), if_neg (not_not.2 hpins),
    if_neg (not_not.2 hthrottle)]

/-- Settles O51: each check is reached when the ones before it pass. -/
theorem configurationRefusals : Obligations.ConfigurationRefusals := by
  intro c other
  refine ⟨fun h => ⟨check_of_wellFormed h, build_of_check_none (check_of_wellFormed h) other⟩, ?_, ?_, ?_, ?_,
    fun r h => build_of_check_some h other⟩
  · intro hascending
    exact if_pos hascending
  · intro hascending hcovered
    rw [Config.check, if_neg (not_not.2 hascending), if_pos hcovered]
  · intro hascending hcovered hpins
    rw [Config.check, if_neg (not_not.2 hascending), if_neg (not_not.2 hcovered), if_pos hpins]
  · intro hascending hcovered hpins hzero
    have hthrottle : ¬ c.ThrottleOk := by simp [Config.ThrottleOk, hzero]
    rw [Config.check, if_neg (not_not.2 hascending), if_neg (not_not.2 hcovered), if_neg (not_not.2 hpins),
      if_pos hthrottle]

end Sys2Proof.Machine
end

section
/-! The classifier: the comparator as a borrow (R66, R72), the bank against the scan (R65, R68), and the buckets of an
ascending table (R69, R70, R71). -/

namespace Sys2Proof.Machine

/-! ### A comparator -/

/-- The top bit of the 9-bit subtraction is its borrow (R72). -/
theorem msb_sub_eq_ult (x y : Byte) : ((0#1 ++ x : BitVec 9) - (0#1 ++ y : BitVec 9)).msb = x.ult y := by
  have hx : x.toNat < 2 ^ 8 := x.isLt
  have hy : y.toNat < 2 ^ 8 := y.isLt
  have hzext (z : Byte) : (0#1 ++ z : BitVec 9).toNat = z.toNat := (BitVec.toNat_append 0#1 z).trans (by simp)
  rw [BitVec.msb_eq_decide, BitVec.ult_eq_decide, decide_eq_decide, BitVec.toNat_sub, hzext, hzext]
  omega

/-- Settles O35: the borrow of `msb_sub_eq_ult` is the comparison. -/
theorem comparatorIsBorrow : Obligations.ComparatorIsBorrow := by
  intro c x i
  refine ⟨?_, (msb_sub_eq_ult x (c.bound i)).symm⟩
  rw [comparator_eq_decide, decide_eq_true_iff]

/-! ### The scan of the table -/

theorem table_eq_ofFn (c : Config) :
    c.bounds.toList.zip c.states.toList = List.ofFn fun i => (c.bound i, c.entryState i) :=
  List.ext_getElem (by simp) fun i _ _ => by simp [-List.ofFn_succ, Config.bound, Config.entryState, Vector.get]

/-- Settles O30: the scan asks the comparators in the order in which the priority encoder does. -/
theorem bankAgreesWithScan : Obligations.BankAgreesWithScan := by
  intro c x
  rw [classify_eq, classifyScan, table_eq_ofFn]
  simp [List.ofFn_succ, scanTable, comparator_eq_decide]

/-- Settles O14: the symbol on the wires is that of the bank, which by O30 is that of the scan. -/
theorem classifyFunction : Obligations.ClassifyFunction := by
  intro x s
  rw [← bankAgreesWithScan]
  rfl

/-! ### The bucket index: the encoder answers the least line at 1 (R59, R67) -/

theorem getLsbD_of_lt_priorityEncode :
    ∀ (v : Byte) (j : Fin 7), j.val < (priorityEncode v).toNat → v.getLsbD j.val = false := by
  decide

theorem getLsbD_of_eq_priorityEncode :
    ∀ (v : Byte) (i : Fin 7), (priorityEncode v).toNat = i.val → v.getLsbD i.val = true := by
  decide

theorem lt_priorityEncode_iff (v : Byte) (i : Fin 7) :
    i.val < (priorityEncode v).toNat ↔ ∀ j ≤ i, v.getLsbD j.val = false := by
  refine ⟨fun hi j hj => getLsbD_of_lt_priorityEncode v j (lt_of_le_of_lt hj hi), fun hlow => ?_⟩
  by_contra hle
  have hone := getLsbD_of_eq_priorityEncode v ⟨(priorityEncode v).toNat, by omega⟩ rfl
  rw [hlow _ (not_lt.1 hle)] at hone
  contradiction

section

variable {c : Config} (h : c.TableAscending)
include h

theorem bound_strictMono : StrictMono fun i => (c.bound i).toNat := Fin.strictMono_iff_lt_succ.2 h.2

/-- The bucket index counts the bounds that the sample has reached (R67, R70). -/
theorem lt_bucketOf_iff (x : Byte) (i : Fin 7) : i.val < (bucketOf c x).toNat ↔ (c.bound i).toNat ≤ x.toNat := by
  have hline (j : Fin 7) : (comparatorBank c x).getLsbD j.val = false ↔ (c.bound j).toNat ≤ x.toNat := by
    rw [comparatorBank_getLsbD, comparator_eq_decide, decide_eq_false_iff_not, not_lt]
  simp only [bucketOf, lt_priorityEncode_iff, hline]
  exact ⟨fun hall => hall i le_rfl, fun hi j hj => ((bound_strictMono h).monotone hj).trans hi⟩

theorem bucketOf_eq_zero_iff (x : Byte) : (bucketOf c x).toNat = 0 ↔ x.toNat < (c.bound 0).toNat := by
  have hlt := lt_bucketOf_iff h x 0
  omega

theorem bucketOf_eq_succ_iff (x : Byte) (i : Fin 6) : (bucketOf c x).toNat = i.succ.val ↔
    (c.bound i.castSucc).toNat ≤ x.toNat ∧ x.toNat < (c.bound i.succ).toNat := by
  have hlow := lt_bucketOf_iff h x i.castSucc
  have hhigh := lt_bucketOf_iff h x i.succ
  rw [Fin.val_castSucc] at hlow
  rw [Fin.val_succ] at hhigh ⊢
  omega

theorem bucketOf_eq_seven_iff (x : Byte) : (bucketOf c x).toNat = 7 ↔ (c.bound 6).toNat ≤ x.toNat := by
  have hlt := lt_bucketOf_iff h x 6
  have hcode : (bucketOf c x).toNat < 2 ^ 3 := (bucketOf c x).isLt
  omega

theorem bucketOf_monotone {x y : Byte} (hxy : x.toNat ≤ y.toNat) : (bucketOf c x).toNat ≤ (bucketOf c y).toNat := by
  by_contra hlt
  have hcode : (bucketOf c x).toNat < 2 ^ 3 := (bucketOf c x).isLt
  have hreached := (lt_bucketOf_iff h x ⟨(bucketOf c y).toNat, by omega⟩).1 (not_le.1 hlt)
  exact lt_irrefl _ ((lt_bucketOf_iff h y _).2 (hreached.trans hxy))

end

/-! ### The state selected -/

theorem toNat_entryCode (i : Fin 7) : (BitVec.ofNat 3 i).toNat = i.val := Nat.mod_eq_of_lt (Nat.lt_succ_of_lt i.isLt)

theorem entryState_eq_selectState (c : Config) (i : Fin 7) : c.entryState i = selectState c (BitVec.ofNat 3 i) := by
  fin_cases i <;> rfl

@[simp] theorem selectState_seven (c : Config) : selectState c 7 = .none := rfl

theorem classify_of_bucketOf_eq {c : Config} {x : Byte} {i : Fin 7} (h : (bucketOf c x).toNat = i.val) :
    classify c x = c.entryState i := by
  rw [entryState_eq_selectState, ← h, BitVec.ofNat_toNat, BitVec.setWidth_eq, classify]

theorem classify_of_bucketOf_eq_seven {c : Config} {x : Byte} (h : (bucketOf c x).toNat = 7) : classify c x = .none := by
  rw [classify, BitVec.eq_of_toNat_eq (y := 7) h, selectState_seven]

/-- One below a bound is above the bound before it, the bounds being different (R47, R69). -/
theorem bucketOf_bound_pred {c : Config} (h : c.TableAscending) (i : Fin 7) :
    (bucketOf c (c.bound i - 1#8)).toNat = i.val := by
  have hpos : 1 ≤ (c.bound i).toNat := h.1.trans ((bound_strictMono h).monotone (Fin.zero_le i))
  have hpred : (c.bound i - 1#8).toNat = (c.bound i).toNat - 1 := BitVec.toNat_sub_of_le hpos
  cases i using Fin.cases with
  | zero => exact (bucketOf_eq_zero_iff h _).2 (by omega)
  | succ i =>
    have hstep : (c.bound i.castSucc).toNat < (c.bound i.succ).toNat := h.2 i
    exact (bucketOf_eq_succ_iff h _ i).2 (by omega)

/-- Settles O31: one below `T[i]` is in bucket `i`, `T[i]` itself at the foot of the next one. -/
theorem boundaryLaw : Obligations.BoundaryLaw := fun _ h =>
  ⟨fun i => classify_of_bucketOf_eq (bucketOf_bound_pred h i),
    fun i => classify_of_bucketOf_eq ((bucketOf_eq_succ_iff h _ i).2 ⟨le_rfl, h.2 i⟩),
    classify_of_bucketOf_eq_seven ((bucketOf_eq_seven_iff h _).2 le_rfl)⟩

/-- Settles O33: 0 is below the first bound, which is at least 1, and no bound is above 255 (R71). -/
theorem endsOfTheRange : Obligations.EndsOfTheRange := by
  intro c ⟨h, _⟩
  have hlast : (c.bound 6).toNat < 2 ^ 8 := (c.bound 6).isLt
  exact ⟨classify_of_bucketOf_eq_seven ((bucketOf_eq_seven_iff h _).2 (Nat.le_of_lt_succ hlast)),
    classify_of_bucketOf_eq ((bucketOf_eq_zero_iff h _).2 h.1)⟩

/-! ### The states of a covered table -/

/-- Every bucket index is that of an entry or 7. -/
theorem code_eq_entry_or_seven : ∀ q : Code, (∃ i : Fin 7, q = BitVec.ofNat 3 i) ∨ q = 7 := by decide

/-- Seven different states and NONE are eight different states (R48). -/
theorem selectState_injective {c : Config} (h : c.StatesCovered) : Function.Injective (selectState c) := by
  obtain ⟨hnone, hdistinct⟩ := h
  intro p q hpq
  obtain ⟨i, rfl⟩ | rfl := code_eq_entry_or_seven p <;> obtain ⟨j, rfl⟩ | rfl := code_eq_entry_or_seven q
  · simp only [← entryState_eq_selectState] at hpq
    rw [hdistinct i j hpq]
  · exact absurd ((entryState_eq_selectState c i).trans hpq) (hnone i)
  · exact absurd ((entryState_eq_selectState c j).trans hpq.symm) (hnone j)
  · rfl

theorem code_injective : Function.Injective ButtonState.code := Function.LeftInverse.injective symbolOf_code

/-- The codes are eight and so are the states, so none is left out. -/
theorem selectState_surjective {c : Config} (h : c.StatesCovered) : Function.Surjective (selectState c) := by
  intro b
  have hcodes : Function.Injective fun q => (selectState c q).code := code_injective.comp (selectState_injective h)
  obtain ⟨q, hq⟩ := Finite.surjective_of_injective hcodes b.code
  exact ⟨q, code_injective hq⟩

theorem classify_eq_entryState_iff {c : Config} (h : c.StatesCovered) (x : Byte) (i : Fin 7) :
    classify c x = c.entryState i ↔ (bucketOf c x).toNat = i.val := by
  refine ⟨fun hx => ?_, classify_of_bucketOf_eq⟩
  rw [selectState_injective h (hx.trans (entryState_eq_selectState c i)), toNat_entryCode]

theorem classify_eq_none_iff {c : Config} (h : c.StatesCovered) (x : Byte) :
    classify c x = .none ↔ (bucketOf c x).toNat = 7 :=
  ⟨fun hx => congrArg BitVec.toNat (selectState_injective h (hx.trans (selectState_seven c).symm)),
    classify_of_bucketOf_eq_seven⟩

/-- No bucket is empty: one below its bound is in the bucket of each entry, the last bound in the default's. -/
theorem bucketOf_surjective {c : Config} (h : c.TableAscending) : Function.Surjective (bucketOf c) := by
  intro q
  obtain ⟨i, rfl⟩ | rfl := code_eq_entry_or_seven q
  · exact ⟨c.bound i - 1#8, BitVec.eq_of_toNat_eq ((bucketOf_bound_pred h i).trans (toNat_entryCode i).symm)⟩
  · exact ⟨c.bound 6, BitVec.eq_of_toNat_eq ((bucketOf_eq_seven_iff h _).2 le_rfl)⟩

/-- Settles O32: over a covered table the state gives the bucket, and the buckets of an ascending table are the
intervals between its bounds. -/
theorem partitionAndMonotonicity : Obligations.PartitionAndMonotonicity := by
  intro c ⟨hascending, hcovered, _⟩
  refine ⟨fun x => ⟨?_, fun i => ?_, ?_⟩, fun x y => bucketOf_monotone hascending,
    (selectState_surjective hcovered).comp (bucketOf_surjective hascending)⟩
  · exact (classify_eq_entryState_iff hcovered x 0).trans (bucketOf_eq_zero_iff hascending x)
  · exact (classify_eq_entryState_iff hcovered x i.succ).trans (bucketOf_eq_succ_iff hascending x i)
  · exact (classify_eq_none_iff hcovered x).trans (bucketOf_eq_seven_iff hascending x)

end Sys2Proof.Machine
end

section
/-! The LED encoder: ENCODE on and off the mask (R75, R78, R79), the pattern as the look-up's image (R81), and its corner
cases (R80, R82). -/

namespace Sys2Proof.Machine

/-! ### An encoded port, bit by bit and by the mask -/

theorem encodePort_pin {c : Config} (h : c.LedPinsOk) (q : Code) (p : BitVec c.portW) (k : Fin 3) :
    (encodePort c q p).getLsbD (c.pin k) = ((c.lut q).getLsbD k.val ^^ c.ledActiveLow) := by
  rw [encodePort_getLsbD, if_pos (ledMask_pin h k), ledPattern_pin h]

theorem encodePort_other {c : Config} {n : Nat} (h : ¬ IsLedPin c n) (q : Code) (p : BitVec c.portW) :
    (encodePort c q p).getLsbD n = p.getLsbD n := by
  simp [encodePort_getLsbD, ledMask_other h]

/-- The LED bits of an encoded port are the pattern, whatever the operand is (R79). -/
@[simp] theorem encodePort_and_ledMask (c : Config) (q : Code) (p : BitVec c.portW) :
    encodePort c q p &&& ledMask c = ledPattern c q := by
  refine BitVec.eq_of_getLsbD_eq fun n _ => ?_
  rw [BitVec.getLsbD_and, encodePort_getLsbD]
  cases hm : (ledMask c).getLsbD n
  · simp [ledPattern_other c q n hm]
  · simp

/-- The non-LED bits pass through (R79). -/
@[simp] theorem encodePort_and_not_ledMask (c : Config) (q : Code) (p : BitVec c.portW) :
    encodePort c q p &&& ~~~ledMask c = p &&& ~~~ledMask c := by
  refine BitVec.eq_of_getLsbD_eq fun n _ => ?_
  simp only [BitVec.getLsbD_and, BitVec.getLsbD_not, encodePort_getLsbD]
  cases (ledMask c).getLsbD n <;> simp

/-! ### The encoder's laws -/

/-- Settles O36: the masks of the encoded port are those of the operand and of the pattern. -/
theorem encodeLaws : Obligations.EncodeLaws := by
  intro c q p1 p2 h
  exact ⟨encodePort_and_not_ledMask c q p1,
    (encodePort_and_ledMask c q p1).trans (encodePort_and_ledMask c q p2).symm,
    encodePort_and_ledMask c q p1, encodePort_pin h q p1⟩

/-- Settles O37: both ports have the pattern of `q2` on the mask and the bits of `p` off it. -/
theorem encodeForgetsPreviousState : Obligations.EncodeForgetsPreviousState := encodePort_encodePort

/-- Settles O15: the wires carry the encoded port, whose operand has the `PORT_W` low bits of `cur`. -/
theorem encodeFunction : Obligations.EncodeFunction := by
  intro q cur s ⟨_, _, hpins, _⟩
  refine ⟨encodePort s.cfg q (portBits s.cfg cur), rfl, encodePort_pin hpins q _, fun n hn hother => ?_⟩
  rw [encodePort_other hother, portBits_getLsbD s.cfg cur n hn]

/-- Each bit of a look-up reaches a pin of its own, so the pattern tells the look-ups apart, in either polarity (R81). -/
theorem ledPattern_eq_iff {c : Config} (h : c.LedPinsOk) (q1 q2 : Code) :
    ledPattern c q1 = ledPattern c q2 ↔ c.lut q1 = c.lut q2 := by
  constructor
  · intro hpat
    refine BitVec.eq_of_getLsbD_eq fun k hk => ?_
    have hbit := congrArg (BitVec.getLsbD · (c.pin ⟨k, hk⟩)) hpat
    simpa only [ledPattern_pin h, Bool.xor_left_inj] using hbit
  · intro hlut
    rw [ledPattern, ledPattern, hlut]

/-- Settles O38: the LED bits of an encoded port are the pattern, which determines exactly the look-up. -/
theorem portDeterminesState : Obligations.PortDeterminesState := by
  intro c h
  simp only [encodePort_and_ledMask, ledPattern_eq_iff h]
  exact ⟨fun hdistinct q1 q2 => hdistinct q1 q2 0 0, fun hdistinct q1 q2 _ _ => hdistinct q1 q2⟩

/-! ### The corner cases (R82) -/

theorem none_code_getLsbD : ∀ k : Fin 3, ButtonState.none.code.getLsbD k.val = false := by decide

theorem b123_code_getLsbD : ∀ k : Fin 3, ButtonState.b123.code.getLsbD k.val = true := by decide

/-- Three distinct pins below 3 are all the pins there are. -/
theorem ledMask_of_portW_eq_three {c : Config} (h : c.LedPinsOk) (hw : c.portW = 3) :
    ledMask c = BitVec.allOnes c.portW := by
  obtain ⟨hbelow, hdistinct⟩ := h
  have hinjective : Function.Injective fun k : Fin 3 => (⟨c.pin k, hw ▸ hbelow k⟩ : Fin 3) :=
    fun j k hjk => hdistinct j k (congrArg Fin.val hjk)
  refine BitVec.eq_of_getLsbD_eq fun n hn => ?_
  obtain ⟨k, hk⟩ := Finite.surjective_of_injective hinjective ⟨n, hw ▸ hn⟩
  rw [(ledMask_iff c n).2 ⟨hn, k, congrArg Fin.val hk⟩, BitVec.getLsbD_allOnes, decide_eq_true hn]

theorem encodePort_of_portW_eq_three {c : Config} (h : c.LedPinsOk) (hw : c.portW = 3) (q : Code)
    (p : BitVec c.portW) : encodePort c q p = ledPattern c q := by
  rw [← encodePort_and_ledMask c q p, ledMask_of_portW_eq_three h hw, BitVec.and_allOnes]

/-- A port that holds the pattern of the state is not changed. -/
theorem encodePort_of_and_ledMask {c : Config} {q : Code} {p : BitVec c.portW} (h : p &&& ledMask c = ledPattern c q) :
    encodePort c q p = p := by
  refine BitVec.eq_of_getLsbD_eq fun n _ => ?_
  rw [encodePort_getLsbD, ← h, BitVec.getLsbD_and]
  cases (ledMask c).getLsbD n <;> simp

/-- Settles O39: the codes of NONE and B123 are all zeros and all ones, three pins leave no other bit, and the pattern
is written over itself. -/
theorem encodeCornerCases : Obligations.EncodeCornerCases := by
  intro c q p1 p2 h
  refine ⟨fun hlut k => ⟨?_, ?_⟩, fun hw => ?_, encodePort_of_and_ledMask⟩
  · rw [encodePort_pin h, hlut, none_code_getLsbD, Bool.false_xor]
  · rw [encodePort_pin h, hlut, b123_code_getLsbD, Bool.true_xor]
  · rw [encodePort_of_portW_eq_three h hw, encodePort_of_portW_eq_three h hw]

end Sys2Proof.Machine
end

section
/-! The sampling handler: what SAMPLE does (R85), one sample for tap and classifier (R86, R154), and the laws of a run of
events, the state sequence (R91) and the throttle (R90). -/

namespace Sys2Proof.Machine

/-! ### The sample of an event -/

/-- Settles O12: the classifier's result is stated as the scan's, which by O30 it is. -/
theorem sampleEvent : Obligations.SampleEvent := by
  intro x s
  rw [← bankAgreesWithScan]
  exact ⟨_, rfl⟩

/-- Settles O46: `runCycle_spec` gives STATE and the tap of one and the same value of the bus. -/
theorem oneSamplePerEvent : Obligations.OneSamplePerEvent := by
  intro c s t hrst hsy2 hsy3 hrun
  have hvalid : sampleValid s = true := by simp [sampleValid, hsy2, hsy3]
  obtain ⟨u, hu, -, hstate, -, -, htap, -⟩ := runCycle_spec c s
  cases hu.symm.trans hrun
  rw [hstate, htap, ← bankAgreesWithScan]
  refine ⟨by simp [hrst, hvalid], by simp [hrst, hvalid, forwards], fun v hv => ?_⟩
  rw [hv, busSample]

/-! ### The events of a run: with a sample and without -/

/-- SAMPLE and SAMPLE_REFRESH alike: STATE takes the class, CNT advances, and the tap fires when CNT is 0 (R85, R117). -/
theorem exec_of_sampleOf_some {i : Instr} {x : Byte} (hx : sampleOf i = some x) (s : State) :
    ∃ t, exec i s = .next t ∧ t.state = (classify s.cfg x).code ∧ t.cnt.toNat = (nextCount s.cfg s.cnt).toNat ∧
      t.tap.valid = forwards s := by
  cases i <;> cases hx
  case sample => exact ⟨_, rfl, rfl, rfl, rfl⟩
  case sampleRefresh => exact ⟨_, rfl, rfl, rfl, rfl⟩

/-- IDLE and REFRESH alike: STATE and CNT stay, and there is no strobe (R95, R101). -/
theorem exec_of_sampleOf_none {i : Instr} (hi : isRunEvent i = true) (hx : sampleOf i = none) (s : State) :
    ∃ t, exec i s = .next t ∧ t.state = s.state ∧ t.cnt.toNat = s.cnt.toNat ∧ t.tap.valid = false := by
  cases i <;> cases hi
  case idle => exact ⟨_, rfl, rfl, rfl, rfl⟩
  case refresh => exact ⟨_, rfl, rfl, rfl, rfl⟩
  case sample => cases hx
  case sampleRefresh => cases hx

theorem samplesOf_cons_some {i : Instr} {x : Byte} (hx : sampleOf i = some x) (is : List Instr) :
    samplesOf (i :: is) = x :: samplesOf is := List.filterMap_cons_some hx

theorem samplesOf_cons_none {i : Instr} (hx : sampleOf i = none) (is : List Instr) :
    samplesOf (i :: is) = samplesOf is := List.filterMap_cons_none hx

/-! ### The state sequence (R91) -/

/-- The code of the class of the last sample of `xs`, `q` where there is none. -/
def lastClass (c : Config) (xs : List Byte) (q : Code) : Code :=
  match xs.getLast? with
  | some x => (classifyScan c x).code
  | none => q

/-- What was before a sample does not matter after it (R89). -/
theorem lastClass_cons (c : Config) (x : Byte) (xs : List Byte) (q : Code) :
    lastClass c (x :: xs) q = lastClass c xs (classify c x).code := by
  rw [lastClass, lastClass, List.getLast?_cons, bankAgreesWithScan]
  cases xs.getLast? <;> rfl

theorem runEvents_cons {i : Instr} {s t : State} (h : exec i s = .next t) (is : List Instr) :
    runEvents (i :: is) s = runEvents is t := by
  rw [runEvents, h, andThen_next]

/-- A run of events completes, with the class of its last sample in STATE. -/
theorem runEvents_state {is : List Instr} (his : ∀ i ∈ is, isRunEvent i = true) (s : State) :
    ∃ t, runEvents is s = .next t ∧ t.state = lastClass s.cfg (samplesOf is) s.state := by
  induction is generalizing s with
  | nil => exact ⟨s, rfl, rfl⟩
  | cons i rest ih =>
    obtain ⟨hi, hrest⟩ := List.forall_mem_cons.1 his
    cases hx : sampleOf i with
    | some x =>
      obtain ⟨t, ht, hstate, -, -⟩ := exec_of_sampleOf_some hx s
      rw [runEvents_cons ht, samplesOf_cons_some hx, lastClass_cons, ← hstate, ← exec_cfg ht]
      exact ih hrest t
    | none =>
      obtain ⟨t, ht, hstate, -, -⟩ := exec_of_sampleOf_none hi hx s
      rw [runEvents_cons ht, samplesOf_cons_none hx, ← hstate, ← exec_cfg ht]
      exact ih hrest t

/-- The pattern has no bit outside the mask. -/
@[simp] theorem ledPattern_and_ledMask (c : Config) (q : Code) : ledPattern c q &&& ledMask c = ledPattern c q := by
  rw [← encodePort_and_ledMask c q 0, BitVec.and_assoc, BitVec.and_self]

/-- REFRESH shows the STATE it finds (R95, R99). -/
theorem exec_refresh_ledsShow (y : Byte) (t : State) : ∃ u, exec (.refresh y) t = .next u ∧ LedsShow u t.state := by
  refine ⟨_, rfl, ?_⟩
  exact (encodePort_and_ledMask t.cfg t.state t.port).trans (ledPattern_and_ledMask t.cfg t.state).symm

/-- Settles O44: the run is that of `runEvents_state`; at power-on the STATE before it is the code of NONE. -/
theorem stateSequenceLaw : Obligations.StateSequenceLaw := by
  refine ⟨fun s is his => ?_, fun c other is his => ?_⟩
  · obtain ⟨t, ht, hstate⟩ := runEvents_state his s
    exact ⟨t, ht, hstate, fun y => exec_refresh_ledsShow y t⟩
  · obtain ⟨t, ht, hstate⟩ := runEvents_state his (powerOn c other)
    refine ⟨t, ht, hstate.trans ?_, fun y => exec_refresh_ledsShow y t⟩
    unfold lastClass
    cases (samplesOf is).getLast? <;> rfl

/-! ### The throttle (R90) -/

theorem strobes_cons {i : Instr} {s t : State} (h : exec i s = .next t) (is : List Instr) :
    strobes (i :: is) s = (if t.tap.valid then 1 else 0) + strobes is t := by
  simp [strobes, h]

/-- One sample more, taken at the count `(e + 1) mod K`: it is a strobe of its own just when the count has come round. -/
theorem add_succ_div_throttle {K e : Nat} (he : e < K) (M : Nat) :
    (M + 1 + e) / K = (if (e + 1) % K = 0 then 1 else 0) + (M + (e + 1) % K) / K := by
  obtain hlt | hK : e + 1 < K ∨ e + 1 = K := Nat.lt_or_eq_of_le he
  · have hsame : M + 1 + e = M + (e + 1) := by omega
    simp [hsame, Nat.mod_eq_of_lt hlt]
  · have hwrap : M + 1 + e = M + K := by omega
    rw [hwrap, hK, Nat.mod_self, if_pos rfl, Nat.add_zero M, Nat.add_div_right M (Nat.zero_lt_of_lt he), Nat.add_comm]

theorem forwards_eq_true_iff (s : State) : forwards s = true ↔ s.cnt.toNat = 0 := by
  rw [forwards, decide_eq_true_iff, ← BitVec.toNat_inj]
  rfl

/-- Where `CNT` is one sample past the count `e`, `e` samples have been taken since the last strobe's, and each time these
and the samples of the run make up `K` there is a strobe. -/
theorem strobes_eq_div {is : List Instr} (his : ∀ i ∈ is, isRunEvent i = true) {s : State} (hs : s.Inv) {K e : Nat}
    (hK : s.cfg.throttle = K) (he : e < K) (hcnt : s.cnt.toNat = (e + 1) % K) :
    strobes is s = ((samplesOf is).length + e) / K := by
  induction is generalizing s e with
  | nil => exact (Nat.div_eq_of_lt (by simpa [samplesOf] using he)).symm
  | cons i rest ih =>
    obtain ⟨hi, hrest⟩ := List.forall_mem_cons.1 his
    cases hx : sampleOf i with
    | some x =>
      obtain ⟨t, ht, -, htcnt, hvalid⟩ := exec_of_sampleOf_some hx s
      rw [nextCount_toNat hs.2, hK] at htcnt
      rw [strobes_cons ht, samplesOf_cons_some hx, List.length_cons, add_succ_div_throttle he, hvalid, ← hcnt,
        ih hrest (inv_of_exec hs ht) (exec_cfg ht ▸ hK) (hK ▸ hs.2) htcnt]
      simp only [forwards_eq_true_iff]
    | none =>
      obtain ⟨t, ht, -, htcnt, hvalid⟩ := exec_of_sampleOf_none hi hx s
      rw [strobes_cons ht, samplesOf_cons_none hx, hvalid, if_neg Bool.false_ne_true, Nat.zero_add]
      exact ih hrest (inv_of_exec hs ht) (exec_cfg ht ▸ hK) he (htcnt.trans hcnt)

/-- From the count 0 the run is the one after `K - 1` samples: every `K`th sample is a strobe, the first one too. -/
theorem strobes_of_cnt_eq_zero {is : List Instr} (his : ∀ i ∈ is, isRunEvent i = true) {s : State} (hs : s.Inv)
    (hcnt : s.cnt.toNat = 0) : strobes is s = ((samplesOf is).length + s.cfg.throttle - 1) / s.cfg.throttle := by
  have hpos : 0 < s.cfg.throttle := Nat.zero_lt_of_lt hs.2
  rw [Nat.add_sub_assoc hpos]
  exact strobes_eq_div his hs rfl (Nat.sub_one_lt_of_lt hpos) (by rw [Nat.sub_add_cancel hpos, Nat.mod_self, hcnt])

/-- From a count above 0 the run is the one after `CNT - 1` samples. -/
theorem strobes_of_cnt_pos {is : List Instr} (his : ∀ i ∈ is, isRunEvent i = true) {s : State} (hs : s.Inv)
    (hcnt : 0 < s.cnt.toNat) : strobes is s = ((samplesOf is).length + (s.cnt.toNat - 1)) / s.cfg.throttle :=
  strobes_eq_div his hs rfl ((Nat.sub_le _ 1).trans_lt hs.2) (by rw [Nat.sub_add_cancel hcnt, Nat.mod_eq_of_lt hs.2])

/-- Settles O43: the count from `CNT = 0`, and from a `CNT` above it, whose offset to the next strobe is `K - CNT`. -/
theorem throttlingLaw : Obligations.ThrottlingLaw := by
  refine ⟨fun c other is h his => strobes_of_cnt_eq_zero his (inv_powerOn other h) rfl, fun s is hs his => ?_⟩
  have hlt : s.cnt.toNat < s.cfg.throttle := hs.2
  obtain hzero | hpos : s.cnt.toNat = 0 ∨ 0 < s.cnt.toNat := Nat.eq_zero_or_pos _
  · rw [strobes_of_cnt_eq_zero his hs hzero, hzero, Nat.sub_zero, Nat.mod_self, if_neg (Nat.not_lt_zero _), Nat.sub_zero]
  · rw [strobes_of_cnt_pos his hs hpos, Nat.mod_eq_of_lt (Nat.sub_lt (Nat.zero_lt_of_lt hlt) hpos)]
    split
    next hfew => exact Nat.div_eq_of_lt (by omega)
    next hmany =>
      congr 1
      omega

end Sys2Proof.Machine
end

section
/-! The refresh: what REFRESH, IDLE and ENVPORT do (R95, R100, R101), the port after a clock cycle (R100), and that the
LEDs show the STATE of the last refresh (R99). -/

namespace Sys2Proof.Machine

/-! ### The port after a clock cycle, on and off the mask (R100) -/

section

variable {c : CycleInput} {s t : State} (hrun : runCycle c s = .next t)
include hrun

theorem portBit_runCycle_of_ledMask {n : Nat} (hmask : (ledMask s.cfg).getLsbD n = true) :
    portBit t n =
      if c.rst then (ledPattern s.cfg ButtonState.none.code).getLsbD n
      else if c.refreshTick then (ledPattern s.cfg s.state).getLsbD n
      else portBit s n := by
  obtain ⟨u, hu, -, -, -, -, -, -, -, -, hport⟩ := runCycle_spec c s
  cases hu.symm.trans hrun
  rw [hport, if_pos hmask]

theorem portBit_runCycle_pin (hpins : s.cfg.LedPinsOk) (k : Fin 3) :
    portBit t (s.cfg.pin k) =
      if c.rst then (s.cfg.lut ButtonState.none.code).getLsbD k.val ^^ s.cfg.ledActiveLow
      else if c.refreshTick then (s.cfg.lut s.state).getLsbD k.val ^^ s.cfg.ledActiveLow
      else portBit s (s.cfg.pin k) := by
  rw [portBit_runCycle_of_ledMask hrun (ledMask_pin hpins k), ledPattern_pin hpins, ledPattern_pin hpins]

theorem portBit_runCycle_other {n : Nat} (hn : n < s.cfg.portW) (hother : ¬ IsLedPin s.cfg n) :
    portBit t n = if c.envWe then c.envData.testBit n else portBit s n := by
  obtain ⟨u, hu, -, -, -, -, -, -, -, -, hport⟩ := runCycle_spec c s
  cases hu.symm.trans hrun
  rw [hport, ledMask_other hother, if_neg Bool.false_ne_true, portBits_getLsbD s.cfg _ n hn]

/-- Without a reset and without a refresh a cycle keeps the LED bits, whatever the pins are. -/
theorem portBit_runCycle_ledPin_kept (hrst : c.rst = false) (htick : c.refreshTick = false) {n : Nat}
    (hled : IsLedPin s.cfg n) : portBit t n = portBit s n := by
  by_cases hn : n < s.cfg.portW
  · simp [portBit_runCycle_of_ledMask hrun ((ledMask_iff s.cfg n).2 ⟨hn, hled⟩), hrst, htick]
  · have hge : s.cfg.portW ≤ n := not_lt.1 hn
    have hge' : t.cfg.portW ≤ n := by rwa [runCycle_cfg hrun]
    rw [portBit_of_ge hge, portBit_of_ge hge']

end

/-- Settles O40: a pin is in the mask, where the encoder writes, and any other bit is off it, where ENVPORT writes. -/
theorem cycleMergesPort : Obligations.CycleMergesPort := by
  intro c s t ⟨_, _, hpins, _⟩ hrun n hn
  refine ⟨fun k hk => ?_, portBit_runCycle_other hrun hn⟩
  subst hk
  exact portBit_runCycle_pin hrun hpins k

/-! ### The instructions -/

/-- Settles O11: the new port is the encoded one, on the pins and off them. -/
theorem refreshEvent : Obligations.RefreshEvent := by
  intro x s ⟨_, _, hpins, _⟩
  exact ⟨encodePort s.cfg s.state s.port, _, rfl, encodePort_pin hpins s.state s.port,
    fun n hn => encodePort_other hn s.state s.port⟩

theorem portBit_writeEnv_other {s : State} {n : Nat} (hn : n < s.cfg.portW) (hother : ¬ IsLedPin s.cfg n) (e : Nat) :
    portBit (writeEnv e s) n = e.testBit n := by
  rw [portBit_writeEnv, ledMask_other hother, if_neg Bool.false_ne_true, portBits_getLsbD s.cfg e n hn]

/-- Settles O17: `writeEnv` writes PORT only, and of it the bits off the pins. -/
theorem envportStep : Obligations.EnvportStep := fun e s =>
  ⟨(writeEnv e s).port, rfl, fun _ hled => portBit_writeEnv_ledPin hled e,
    fun _ hn hother => portBit_writeEnv_other hn hother e⟩

/-- Settles O10: in a cycle without reset, sample and tick, `runCycle_spec` leaves the flops and the environment's bits
to change. -/
theorem idleEvent : Obligations.IdleEvent := by
  refine ⟨fun x s => rfl, fun c s t hrst hvalid htick hrun => ?_⟩
  obtain ⟨u, hu, -, hstate, hcnt, hflops, htap, hsink, -⟩ := runCycle_spec c s
  cases hu.symm.trans hrun
  have hstrobe : t.tap.valid = false := by simp [htap, hvalid]
  exact ⟨by simpa [hrst, hvalid] using hstate, by simpa [hrst, hvalid] using hcnt, hstrobe,
    by simpa [hstrobe] using hsink, by simpa [hrst] using hflops,
    fun _ hled => portBit_runCycle_ledPin_kept hrun hrst htick hled,
    fun _ hn hother => portBit_runCycle_other hrun hn hother⟩

/-! ### What the LEDs show (R99) -/

theorem ledsShow_iff_portBit (s : State) (q : Code) :
    LedsShow s q ↔ ∀ n, (ledMask s.cfg).getLsbD n = true → portBit s n = (ledPattern s.cfg q).getLsbD n := by
  rw [LedsShow, ledPattern_and_ledMask]
  constructor
  · intro h n hmask
    rw [← h, BitVec.getLsbD_and, hmask, Bool.and_true, portBit]
  · intro h
    refine BitVec.eq_of_getLsbD_eq fun n _ => ?_
    rw [BitVec.getLsbD_and]
    cases hmask : (ledMask s.cfg).getLsbD n
    · rw [Bool.and_false, ledPattern_other s.cfg q n hmask]
    · rw [Bool.and_true]
      exact h n hmask

/-- A cycle makes the LEDs show NONE at a reset and the STATE before its edge at a refresh; only where it does neither
does it matter what they showed before. -/
theorem ledsShow_runCycle {c : CycleInput} {s t : State} (hrun : runCycle c s = .next t) {q : Code}
    (hbefore : c.rst = false → c.refreshTick = false → LedsShow s q) :
    LedsShow t (if c.rst then ButtonState.none.code else if c.refreshTick then s.state else q) := by
  rw [ledsShow_iff_portBit, runCycle_cfg hrun]
  intro n hmask
  rw [portBit_runCycle_of_ledMask hrun hmask]
  cases hrst : c.rst
  · cases htick : c.refreshTick
    · exact (ledsShow_iff_portBit s q).1 (hbefore hrst htick) n hmask
    · rfl
  · rfl

theorem runCycles_cons {c : CycleInput} {s t : State} (h : runCycle c s = .next t) (cs : List CycleInput) :
    runCycles (c :: cs) s = runCycles cs t := by
  rw [runCycles, h, andThen_next]

theorem shownCode_cons {c : CycleInput} {s t : State} (h : runCycle c s = .next t) (cs : List CycleInput) (q : Code) :
    shownCode (c :: cs) s q =
      shownCode cs t (if c.rst then ButtonState.none.code else if c.refreshTick then s.state else q) := by
  simp [shownCode, h]

/-- Over a run of cycles `shownCode` follows the LEDs, cycle by cycle. -/
theorem ledsShow_runCycles (cs : List CycleInput) {s : State} {q : Code} (hs : LedsShow s q) :
    ∃ t, runCycles cs s = .next t ∧ LedsShow t (shownCode cs s q) := by
  induction cs generalizing s q with
  | nil => exact ⟨s, rfl, hs⟩
  | cons c rest ih =>
    obtain ⟨t, ht, -⟩ := runCycle_spec c s
    rw [runCycles_cons ht, shownCode_cons ht]
    exact ih (ledsShow_runCycle ht fun _ _ => hs)

theorem ledsShow_powerOn (c : Config) (other : BitVec c.portW) : LedsShow (powerOn c other) ButtonState.none.code :=
  (encodePort_and_ledMask c _ other).trans (ledPattern_and_ledMask c _).symm

/-- Settles O42: a cycle with a reset or a refresh asks nothing of the LEDs before it, and a run carries on from what
they show. -/
theorem ledsShowLastRefresh : Obligations.LedsShowLastRefresh := by
  refine ⟨fun c s t hrun => ⟨fun hrst => ?_, fun hrst htick => ?_⟩, fun cs _ _ => ledsShow_runCycles cs,
    ledsShow_powerOn⟩
  · simpa only [hrst, if_true] using ledsShow_runCycle hrun (q := s.state) (by simp [hrst])
  · simpa only [hrst, htick, Bool.false_eq_true, if_false, if_true] using
      ledsShow_runCycle hrun (q := s.state) (by simp [htick])

end Sys2Proof.Machine
end

section
/-! The debug sink: what it takes or drops changes its own content and nothing else, over a cycle (R104) and over a run
that never ends (R9 item 8). -/

namespace Sys2Proof.Machine

/-- The same state with other samples in the sink. -/
def State.withSink (s : State) (l : List Byte) : State := { s with sink := l }

@[simp] theorem observe_withSink (s : State) (l : List Byte) : observe (s.withSink l) = observe s := rfl

/-! ### No part of a cycle but the delivery has to do with the sink -/

section

variable {s t : State} (l : List Byte)

/-- No instruction reads or writes what the sink holds. -/
theorem exec_withSink {i : Instr} (h : exec i s = .next t) : exec i (s.withSink l) = .next (t.withSink l) := by
  cases i <;> (cases h; rfl)

theorem syncUnlessReset_withSink {c : CycleInput} {n : Nat} (h : syncUnlessReset c n s = .next t) :
    syncUnlessReset c n (s.withSink l) = .next (t.withSink l) := by
  unfold syncUnlessReset at h ⊢
  split at h
  next hrst =>
    cases h
    rw [if_pos hrst]
  next hrst =>
    rw [if_neg hrst]
    exact exec_withSink l h

theorem envWrite_withSink {e : Option Nat} (h : envWrite e s = .next t) :
    envWrite e (s.withSink l) = .next (t.withSink l) := by
  cases e with
  | some e => exact exec_withSink (i := .envport e) l h
  | none => cases h; rfl

end

/-! ### The delivery -/

theorem runCycle_of_parts {c : CycleInput} {s s1 s2 s3 : State}
    (hevent : exec (decodeEvent (cycleWord c s)) s = .next s1)
    (hsync : syncUnlessReset c s.cycle s1 = .next s2) (henv : envWrite (envOf c) s2 = .next s3) :
    runCycle c s = .next (tick (deliver c.sinkTakes s3)) := by
  rw [runCycle, hevent, andThen_next, hsync, andThen_next, henv, andThen_next]

/-- Whatever the sink held and whatever it answers, a cycle leads to the same state but for what the sink holds: the
event, SYNC and ENVPORT carry its content along, and the delivery changes that content only. -/
theorem runCycle_withSink {c : CycleInput} {s t : State} (h : runCycle c s = .next t) (b : Bool) (l : List Byte) :
    runCycle { c with sinkTakes := b } (s.withSink l) =
      .next (t.withSink (if b && t.tap.valid then l ++ [t.tap.sample] else l)) := by
  obtain ⟨s1, hevent, h⟩ := andThen_eq_next h
  obtain ⟨s2, hsync, h⟩ := andThen_eq_next h
  obtain ⟨s3, henv, h⟩ := andThen_eq_next h
  cases h
  exact runCycle_of_parts (c := { c with sinkTakes := b }) (exec_withSink l hevent) (syncUnlessReset_withSink l hsync)
    (envWrite_withSink l henv)

/-- Settles O27: the case of `runCycle_withSink` in which the sink holds before the cycle what it held. -/
theorem sinkHasNoInfluence : Obligations.SinkHasNoInfluence := fun _ b s _ h => runCycle_withSink h b s.sink

/-! ### Runs that never end -/

theorem runStream_sinkTakes {w : Nat → CycleInput} (b : Nat → Bool) {s t : State} {k : Nat}
    (h : runStream w k s = .next t) :
    ∃ l, runStream (fun n => { w n with sinkTakes := b n }) k s = .next (t.withSink l) := by
  induction k generalizing t with
  | zero => cases h; exact ⟨s.sink, rfl⟩
  | succ k ih =>
    obtain ⟨u, hu, hlast⟩ := andThen_eq_next h
    obtain ⟨l, hl⟩ := ih hu
    exact ⟨_, (runStream_succ hl).trans (runCycle_withSink hlast (b k) l)⟩

/-- Settles O54: the two runs differ in what the sink holds, which no observation shows. -/
theorem observationsIgnoreSink : Obligations.ObservationsIgnoreSink := by
  intro w b s k
  obtain ⟨t, ht, -⟩ := runStream_next w s (k + 1)
  obtain ⟨l, hl⟩ := runStream_sinkTakes b ht
  simp only [observed, ht, hl, observe_withSink]

end Sys2Proof.Machine
end

section
/-! The front end: a sample and a refresh in one cycle (R117), the flops of the synchroniser over a cycle (R112, R113,
R116), and one SAMPLE event per conversion (R115, R152, R153). -/

namespace Sys2Proof.Machine

/-! ### A sample and a refresh in the same cycle (R117) -/

/-- Settles O13: the port is encoded from the STATE held before the edge; the class written to STATE is the scan's by
O30. -/
theorem sampleRefreshEvent : Obligations.SampleRefreshEvent := by
  intro x s ⟨_, _, hpins, _⟩
  rw [← bankAgreesWithScan]
  exact ⟨encodePort s.cfg s.state s.port, _, rfl, encodePort_pin hpins s.state s.port,
    fun n hn => encodePort_other hn s.state s.port⟩

/-! ### The flops over a cycle (R112, R113) -/

section

variable {c : CycleInput} {s t : State} (hrun : runCycle c s = .next t)
include hrun

theorem flops_runCycle :
    (t.sy1, t.sy2, t.sy3) = if c.rst then (false, false, false) else (capture s.cycle c.adcDone, s.sy1, s.sy2) := by
  obtain ⟨u, hu, -, -, -, hflops, -⟩ := runCycle_spec c s
  cases hu.symm.trans hrun
  exact hflops

theorem cycle_runCycle : t.cycle = s.cycle + 1 := by
  obtain ⟨u, hu, -, -, -, -, -, -, -, hcycle, -⟩ := runCycle_spec c s
  cases hu.symm.trans hrun
  exact hcycle

theorem flops_runCycle_of_rst (hrst : c.rst = true) : t.sy1 = false ∧ t.sy2 = false ∧ t.sy3 = false := by
  simpa [hrst] using flops_runCycle hrun

theorem flops_runCycle_of_not_rst (hrst : c.rst = false) :
    t.sy1 = capture s.cycle c.adcDone ∧ t.sy2 = s.sy1 ∧ t.sy3 = s.sy2 := by
  simpa [hrst] using flops_runCycle hrun

/-- The next cycle is a SAMPLE event just when a captured rise stands between the first two flops. -/
theorem sampleValid_runCycle (hrst : c.rst = false) : sampleValid t = (s.sy1 && !s.sy2) := by
  obtain ⟨-, h2, h3⟩ := flops_runCycle_of_not_rst hrun hrst
  rw [sampleValid, h2, h3]

end

/-- Settles O16: SYNC is `shiftFlops`, and `flops_runCycle` says the rest. -/
theorem syncStep : Obligations.SyncStep := ⟨fun _ _ => rfl, fun _ _ _ => flops_runCycle⟩

/-- Settles O47: a reset clears `SY2`, and in any other cycle the 1 of `SY2` moves on to `SY3`. -/
theorem sampleValidNeverTwice : Obligations.SampleValidNeverTwice := by
  intro c s t hsy2 _ hrun
  cases hrst : c.rst with
  | true =>
    obtain ⟨-, h2, -⟩ := flops_runCycle_of_rst hrun hrst
    rw [h2, Bool.false_and]
  | false =>
    obtain ⟨-, -, h3⟩ := flops_runCycle_of_not_rst hrun hrst
    rw [h3, hsy2, Bool.not_true, Bool.and_false]

/-- Settles O48: the captured 1 and the 0 before it pass through `SY1` to `SY3` edge by edge, and the event they make
writes STATE as O46 says. -/
theorem frontEndLatency : Obligations.FrontEndLatency := by
  intro c1 c2 c3 s t1 t2 t3 v hsy1 hrst1 hrst2 hrst3 hcapture hbus hrun1 hrun2 hrun3
  obtain ⟨h11, h12, -⟩ := flops_runCycle_of_not_rst hrun1 hrst1
  obtain ⟨-, h22, h23⟩ := flops_runCycle_of_not_rst hrun2 hrst2
  have hsy2 : t2.sy2 = true := h22.trans (h11.trans hcapture)
  have hsy3 : t2.sy3 = false := h23.trans (h12.trans hsy1)
  obtain ⟨hstate, -, hsample⟩ := oneSamplePerEvent c3 t2 t3 hrst3 hsy2 hsy3 hrun3
  refine ⟨by simp [sampleValid_runCycle hrun1 hrst1, hsy1], by simp [sampleValid, hsy2, hsy3], ?_⟩
  rw [hstate, hsample v hbus, runCycle_cfg hrun2, runCycle_cfg hrun1]

/-! ### SAMPLE events are captured rises -/

/-- How often the level that the first flop captures rises, over the edges from step `n` on, the flop holding `a`
before them. -/
def rises (n : Nat) (a : Bool) : List FlagLevel → Nat
  | [] => 0
  | l :: ls => (capture n l && !a).toNat + rises (n + 1) (capture n l) ls

theorem validCycles_cons {c : CycleInput} {s t : State} (h : runCycle c s = .next t) (cs : List CycleInput) :
    validCycles (c :: cs) s = (sampleValid s).toNat + validCycles cs t := by
  cases hv : sampleValid s <;> simp [validCycles, h, hv]

/-- Two cycles show the event of the first and the rise that waits between the first two flops. -/
theorem validCycles_pair {c d : CycleInput} (hc : c.rst = false) (s : State) :
    validCycles [c, d] s = (sampleValid s).toNat + (s.sy1 && !s.sy2).toNat := by
  obtain ⟨t, ht, -⟩ := runCycle_spec c s
  obtain ⟨u, hu, -⟩ := runCycle_spec d t
  rw [validCycles_cons ht, validCycles_cons hu, sampleValid_runCycle ht hc, validCycles, Nat.add_zero]

/-- With two cycles more to bring the last rise through the flops, the events of a run are the one of its first cycle,
the rise that waits in the flops, and the rises captured during the run. -/
theorem validCycles_append_pair {cs : List CycleInput} {c d : CycleInput} (hcs : ∀ e ∈ cs, e.rst = false)
    (hc : c.rst = false) (s : State) :
    validCycles (cs ++ [c, d]) s =
      (sampleValid s).toNat + (s.sy1 && !s.sy2).toNat + rises s.cycle s.sy1 (cs.map (·.adcDone)) := by
  induction cs generalizing s with
  | nil => exact validCycles_pair hc s
  | cons e rest ih =>
    obtain ⟨he, hrest⟩ := List.forall_mem_cons.1 hcs
    obtain ⟨t, ht, -⟩ := runCycle_spec e s
    obtain ⟨h1, h2, -⟩ := flops_runCycle_of_not_rst ht he
    rw [List.cons_append, validCycles_cons ht, ih hrest, sampleValid_runCycle ht he, h1, h2, cycle_runCycle ht,
      List.map_cons, rises]
    simp only [Nat.add_assoc]

/-! ### The rises of a pulse (R115, R152, R153) -/

/-- Half a pulse: the flag changes to the level `l`, inside the window of an edge or not, and is steady at `l` for
`k + 1` edges. -/
def halfPulse (inWindow : Bool) (l : FlagLevel) (k : Nat) : List FlagLevel :=
  (if inWindow then [.changing] else []) ++ .replicate (k + 1) l

theorem levels_eq_halfPulses (p : Pulse) :
    p.levels = halfPulse p.riseInWindow .high p.moreHigh ++ halfPulse p.fallInWindow .low p.moreLow := by
  simp [Pulse.levels, halfPulse, List.replicate_succ]

section

variable {l : FlagLevel} {b : Bool} (hl : ∀ n, capture n l = b) (ls : List FlagLevel)
include hl

/-- Edges at a steady level rise once where the flop held another level, and never again. -/
theorem rises_replicate (n : Nat) (a : Bool) (k : Nat) :
    rises n a (.replicate (k + 1) l ++ ls) = (b && !a).toNat + rises (n + (k + 1)) b ls := by
  induction k generalizing n a with
  | zero => simp [rises, hl]
  | succ k ih =>
    rw [List.replicate_succ, List.cons_append, rises, hl, ih, Bool.and_not_self, Bool.toNat_false, Nat.zero_add,
      Nat.add_assoc, Nat.add_comm 1]

/-- Whatever the draw inside the window, a change of level is one rise or one fall: the draw decides at which of two
edges it is captured. -/
theorem rises_halfPulse (n : Nat) (inWindow : Bool) (k : Nat) :
    rises n (!b) (halfPulse inWindow l k ++ ls) = b.toNat + rises (n + (halfPulse inWindow l k).length) b ls := by
  cases inWindow with
  | false => simp [halfPulse, rises_replicate hl]
  | true =>
    have honce : ∀ draw : Bool, (draw && b).toNat + (b && !draw).toNat = b.toNat := by cases b <;> decide
    have hstep : halfPulse true l k ++ ls = .changing :: (.replicate (k + 1) l ++ ls) := rfl
    have hlength : n + (halfPulse true l k).length = n + 1 + (k + 1) := by simp [halfPulse]; omega
    rw [hstep, hlength, rises, rises_replicate hl, Bool.not_not, ← Nat.add_assoc, honce]

end

theorem rises_halfPulse_high (n : Nat) (inWindow : Bool) (k : Nat) (ls : List FlagLevel) :
    rises n false (halfPulse inWindow .high k ++ ls) = 1 + rises (n + (halfPulse inWindow .high k).length) true ls :=
  rises_halfPulse (b := true) (fun _ => rfl) ls n inWindow k

theorem rises_halfPulse_low (n : Nat) (inWindow : Bool) (k : Nat) (ls : List FlagLevel) :
    rises n true (halfPulse inWindow .low k ++ ls) = rises (n + (halfPulse inWindow .low k).length) false ls :=
  (rises_halfPulse (b := false) (fun _ => rfl) ls n inWindow k).trans (Nat.zero_add _)

/-- A pulse is one rise, and leaves the flop at 0 as it found it. -/
theorem rises_pulse (n : Nat) (p : Pulse) (ls : List FlagLevel) :
    rises n false (p.levels ++ ls) = 1 + rises (n + p.levels.length) false ls := by
  rw [levels_eq_halfPulses, List.append_assoc, rises_halfPulse_high, rises_halfPulse_low, List.length_append,
    Nat.add_assoc n]

theorem rises_pulses (ps : List Pulse) (n : Nat) : rises n false (ps.flatMap Pulse.levels) = ps.length := by
  induction ps generalizing n with
  | nil => rfl
  | cons p rest ih => rw [List.flatMap_cons, rises_pulse, ih, List.length_cons, Nat.add_comm]

/-- Settles O50: the events are the captured rises, and each pulse is one. -/
theorem oneEventPerConversion : Obligations.OneEventPerConversion := by
  intro ps cs tail s hsy1 hsy2 _ hrst hlevels htail
  obtain ⟨c, d, rfl⟩ := List.length_eq_two.1 htail
  obtain ⟨hcs, htailrst⟩ := List.forall_mem_append.1 hrst
  rw [validCycles_append_pair hcs (htailrst c (.head _)), hlevels, hsy1, rises_pulses]
  simp [sampleValid, hsy2]

end Sys2Proof.Machine
end

section
/-! Every operation, every clock cycle and every step completes: never a fault and never a refusal (R125). -/

namespace Sys2Proof.Machine

theorem exec_completes (i : Instr) (s : State) : ∃ t, exec i s = .next t := by
  obtain ⟨_, _, hexec⟩ := exec_eq_registerWrite i s
  exact ⟨_, hexec⟩

theorem runCycle_completes (c : CycleInput) (s : State) : ∃ t, runCycle c s = .next t := by
  obtain ⟨t, hrun, -⟩ := runCycle_spec c s
  exact ⟨t, hrun⟩

theorem andThen_completes {o : Host.Outcome State Fault Refusal} {f : State → Host.Outcome State Fault Refusal}
    (ho : ∃ s, o = .next s) (hf : ∀ s, ∃ t, f s = .next t) : ∃ t, andThen o f = .next t := by
  obtain ⟨s, rfl⟩ := ho
  exact hf s

theorem envWrite_completes (e : Option Nat) (s : State) : ∃ t, envWrite e s = .next t := by
  cases e with
  | some e => exact exec_completes (.envport e) s
  | none => exact ⟨s, rfl⟩

theorem runLine_completes (l : TraceLine) (s : State) : ∃ t, runLine l s = .next t :=
  andThen_completes (exec_completes _ s) fun s1 => andThen_completes (envWrite_completes l.env s1) fun _ => ⟨_, rfl⟩

/-- A stand-alone number completes as its row, or as no operation where it is no word of its format (log entry 15). -/
theorem runWord_completes (f : Format) (w : Nat) (s : State) : ∃ t, runWord f w s = .next t := by
  cases h : decodeWord s.cfg.portW f w with
  | ok i =>
    rw [runWord_of_ok h]
    exact andThen_completes (exec_completes i s) fun _ => ⟨_, rfl⟩
  | error e => exact ⟨tick s, runWord_of_error h⟩

theorem perform_completes (i : Stimulus) (s : State) : ∃ t, perform i s = .next t := by
  cases i with
  | cycle c => exact runCycle_completes c s
  | line l => exact runLine_completes l s
  | word f w => exact runWord_completes f w s

/-- Settles O22: each of the three stimuli is a sequence of parts that complete, and a step performs one of them. -/
theorem everyStepCompletes : Obligations.EveryStepCompletes :=
  ⟨exec_completes, runCycle_completes, fun s => perform_completes (fetch s).1 (fetch s).2⟩

end Sys2Proof.Machine
end

section
/-! Reset and the runs that never end: RESET and power-on (R145, R146), the one SAMPLE event of a flag that is high when
`rst` falls (R147, R128), and what a fair run and a run without samples come to show (R159, R97, R99). -/

namespace Sys2Proof.Machine

/-! ### RESET and power-on (R145, R146) -/

/-- RESET writes its register values and the encoded port of NONE, and presents no strobe. -/
theorem exec_reset (v t : Bool) (x : Byte) (s : State) :
    exec (.reset v t x) s = .next { s with
      state := ButtonState.none.code, cnt := 0, sy1 := false, sy2 := false, sy3 := false
      port := encodePort s.cfg ButtonState.none.code s.port, tap := ⟨false, x⟩
      wires := encoderWires s.cfg ButtonState.none.code s.port (Wires.off s.cfg.portW) } := rfl

/-- Settles O7: the port at power-on is an encoded one, and the RESET encodes NONE over NONE. -/
theorem powerOnRegisters : Obligations.PowerOnRegisters := by
  intro c other ⟨_, _, hpins, _⟩
  refine ⟨rfl, rfl, rfl, rfl, rfl, encodePort_pin hpins _ other, fun _ hn => encodePort_other hn _ other,
    fun v t x => ⟨encoderWires c ButtonState.none.code (powerOn c other).port (Wires.off c.portW), ?_⟩⟩
  simp only [exec_reset, powerOn, encodePort_encodePort]

theorem state_runCycle {c : CycleInput} {s t : State} (hrun : runCycle c s = .next t) :
    t.state = if c.rst then ButtonState.none.code
      else if sampleValid s then (classify s.cfg (busSample s.cycle c.adcData)).code else s.state := by
  obtain ⟨u, hu, -, hstate, -⟩ := runCycle_spec c s
  cases hu.symm.trans hrun
  exact hstate

/-- A reset cycle clears the throttle counter and gives the sink nothing (R145). -/
theorem outputs_runCycle_of_rst {c : CycleInput} {s t : State} (hrun : runCycle c s = .next t) (hrst : c.rst = true) :
    t.cnt = 0 ∧ t.tap.valid = false ∧ t.sink = s.sink := by
  obtain ⟨u, hu, -, -, hcnt, -, htap, hsink, -⟩ := runCycle_spec c s
  cases hu.symm.trans hrun
  have hstrobe : t.tap.valid = false := by simp [htap, hrst]
  exact ⟨BitVec.eq_of_toNat_eq (by simpa [hrst] using hcnt), hstrobe, by simpa [hstrobe] using hsink⟩

/-- Settles O9: the instruction by `exec_reset`, the cycle register by register. -/
theorem resetEvent : Obligations.ResetEvent := by
  constructor
  · intro v t x s ⟨_, _, hpins, _⟩
    exact ⟨_, _, exec_reset v t x s, encodePort_pin hpins _ s.port, fun _ hn => encodePort_other hn _ s.port⟩
  · intro c s t ⟨_, _, hpins, _⟩ hrst hrun
    obtain ⟨h1, h2, h3⟩ := flops_runCycle_of_rst hrun hrst
    obtain ⟨hcnt, hstrobe, hsink⟩ := outputs_runCycle_of_rst hrun hrst
    refine ⟨(state_runCycle hrun).trans (if_pos hrst), hcnt, h1, h2, h3, hstrobe, hsink, fun k => ?_,
      fun _ hn hother => portBit_runCycle_other hrun hn hother⟩
    exact (portBit_runCycle_pin hrun hpins k).trans (if_pos hrst)

/-! ### A flag that is high when `rst` falls (R147, R128) -/

/-- A flop that holds 0 sees one rise of a level that is high from the first edge on. -/
theorem rises_replicate_high (n k : Nat) : rises n false (.replicate k .high) = if k = 0 then 0 else 1 := by
  cases k with
  | zero => rfl
  | succ k => simpa [rises] using rises_replicate (b := true) (fun _ => rfl) [] n false k

/-- From cleared flops the rise that the first edge captures is the only event, and it needs two cycles more to come
through. -/
theorem validCycles_of_high {cs : List CycleInput} (hcs : ∀ c ∈ cs, c.rst = false ∧ c.adcDone = .high) {s : State}
    (h1 : s.sy1 = false) (h2 : s.sy2 = false) : validCycles cs s = if cs.length < 3 then 0 else 1 := by
  have hvalid : sampleValid s = false := by simp [sampleValid, h2]
  obtain rfl | ⟨cs, d, rfl⟩ := cs.eq_nil_or_concat'
  · rfl
  obtain rfl | ⟨cs, c, rfl⟩ := cs.eq_nil_or_concat'
  · obtain ⟨t, ht, -⟩ := runCycle_spec d s
    simp [validCycles_cons ht, validCycles, hvalid]
  · have hlevels : cs.map (·.adcDone) = .replicate cs.length .high :=
      List.map_eq_replicate_iff.2 fun e he => (hcs e (by simp [he])).2
    rw [List.append_assoc, List.singleton_append,
      validCycles_append_pair (fun e he => (hcs e (by simp [he])).1) (hcs c (by simp)).1, hlevels, hvalid, h1,
      rises_replicate_high]
    cases cs <;> simp

/-- Settles O49: the reset leaves the flops at 0, and the first captured 1 stands between the first two of them in the
second cycle. -/
theorem eventAfterReset : Obligations.EventAfterReset := by
  constructor
  · intro c0 c1 c2 c3 s t0 t1 t2 t3 hrst0 hrst1 hrst2 hrst3 hhigh1 _ _ hrun0 hrun1 hrun2 hrun3
    obtain ⟨h01, h02, -⟩ := flops_runCycle_of_rst hrun0 hrst0
    obtain ⟨h11, h12, -⟩ := flops_runCycle_of_not_rst hrun1 hrst1
    obtain ⟨-, h22, -⟩ := flops_runCycle_of_not_rst hrun2 hrst2
    have hsy1 : t1.sy1 = true := by rw [h11, hhigh1, capture]
    refine ⟨by simp [sampleValid, h02], ?_, ?_, ?_⟩
    · simp [sampleValid_runCycle hrun1 hrst1, h01]
    · simp [sampleValid_runCycle hrun2 hrst2, hsy1, h12, h01]
    · simp [sampleValid_runCycle hrun3 hrst3, h22, hsy1]
  · intro c0 cs s t0 hrst0 hrun0 hcs
    obtain ⟨h1, h2, -⟩ := flops_runCycle_of_rst hrun0 hrst0
    exact validCycles_of_high hcs h1 h2

/-! ### Runs that never end (R159) -/

/-- What holds after `n` cycles of a run and is kept by every cycle from then on holds from then on. -/
theorem runStream_keeps {P : State → Prop} {w : Nat → CycleInput} {s t : State} {n : Nat}
    (hn : runStream w n s = .next t) (ht : P t)
    (hstep : ∀ k u v, n ≤ k → runStream w k s = .next u → runCycle (w k) u = .next v → P u → P v) (k : Nat)
    (hk : n ≤ k) : ∃ u, runStream w k s = .next u ∧ P u := by
  induction k, hk using Nat.le_induction with
  | base => exact ⟨t, hn, ht⟩
  | succ k hk ih =>
    obtain ⟨u, hu, hPu⟩ := ih
    obtain ⟨v, hv, -⟩ := runCycle_spec (w k) u
    exact ⟨v, (runStream_succ hu).trans hv, hstep k u v hk hu hv hPu⟩

section

variable {c : CycleInput} {s t : State} {q : Code} (hrun : runCycle c s = .next t)
  (hsample : c.rst = true ∨ sampleValid s = false) (hreset : c.rst = true → q = ButtonState.none.code)
  (hstate : s.state = q)
include hrun hsample hreset hstate

/-- Without a SAMPLE event STATE stays, under a reset too where it is NONE. -/
theorem state_runCycle_kept : t.state = q := by
  rw [state_runCycle hrun]
  cases hrst : c.rst with
  | true => exact (hreset hrst).symm
  | false =>
    have hvalid : sampleValid s = false := hsample.resolve_left (by simp [hrst])
    simpa [hvalid] using hstate

/-- LEDs that show STATE go on to show it: a refresh or a reset writes the pattern they hold. -/
theorem state_ledsShow_runCycle_kept (hleds : LedsShow s q) : t.state = q ∧ LedsShow t q := by
  refine ⟨state_runCycle_kept hrun hsample hreset hstate, ?_⟩
  have hcode : (if c.rst then ButtonState.none.code else if c.refreshTick then s.state else q) = q := by
    rw [hstate, ite_self]
    split
    next hrst => exact (hreset hrst).symm
    next => rfl
  simpa only [hcode] using ledsShow_runCycle hrun (q := q) fun _ _ => hleds

end

/-- A refresh shows the STATE held before its edge, whatever the LEDs showed. -/
theorem ledsShow_runCycle_of_refresh {c : CycleInput} {s t : State} (hrun : runCycle c s = .next t)
    (hrst : c.rst = false) (htick : c.refreshTick = true) : LedsShow t s.state :=
  (ledsShowLastRefresh.1 c s t hrun).2 hrst htick

/-- In a fair run a refresh comes after every cycle. -/
theorem exists_refresh_of_fair {w : Nat → CycleInput} (hw : Fair w) (m : Nat) :
    ∃ k, m ≤ k ∧ (w k).rst = false ∧ (w k).refreshTick = true := by
  obtain ⟨⟨r, hrst⟩, hticks⟩ := hw
  obtain ⟨k, hk, htick⟩ := hticks (max m r)
  exact ⟨k, le_of_max_le_left hk, hrst k (le_of_max_le_right hk), htick⟩

/-- Where the samples of a fair run end, STATE stays from there on, the next refresh shows it, and every cycle after it
keeps both. -/
theorem shows_state_for_good {w : Nat → CycleInput} (hw : Fair w) {s : State} {n : Nat} (hn : NoSampleFrom w s n) :
    ∃ k q, ∀ j, k ≤ j → ∃ t, runStream w j s = .next t ∧ t.state = q ∧ LedsShow t q := by
  obtain ⟨r, hrst⟩ := hw.1
  have hreset : ∀ {j q}, max n r ≤ j → (w j).rst = true → q = ButtonState.none.code := fun hj h =>
    absurd h (by simp [hrst _ (le_of_max_le_right hj)])
  obtain ⟨t, ht, -⟩ := runStream_next w s (max n r)
  obtain ⟨k, hk, hrstk, htick⟩ := exists_refresh_of_fair hw (max n r)
  obtain ⟨u, hu, hstate⟩ := runStream_keeps (P := (·.state = t.state)) ht rfl
    (fun j a _ hj ha hrun => state_runCycle_kept hrun (hn j a (le_of_max_le_left hj) ha) (hreset hj)) k hk
  obtain ⟨v, hv, -⟩ := runCycle_spec (w k) u
  have hshown : v.state = t.state ∧ LedsShow v t.state :=
    ⟨state_runCycle_kept hv (hn k u (le_of_max_le_left hk) hu) (hreset hk) hstate,
      hstate ▸ ledsShow_runCycle_of_refresh hv hrstk htick⟩
  refine ⟨k + 1, t.state, runStream_keeps ((runStream_succ hu).trans hv) hshown fun j a b hj ha hrun ⟨hs, hl⟩ => ?_⟩
  have hj' : max n r ≤ j := hk.trans (Nat.le_of_succ_le hj)
  exact state_ledsShow_runCycle_kept hrun (hn j a (le_of_max_le_left hj') ha) (hreset hj') hs hl

/-- Settles O52: the refresh after a given cycle shows its STATE, and without samples `shows_state_for_good`. -/
theorem fairRunsShowState : Obligations.FairRunsShowState := by
  refine fun w s hw => ⟨fun m => ?_, fun ⟨_, hn⟩ => shows_state_for_good hw hn⟩
  obtain ⟨k, hk, hrst, htick⟩ := exists_refresh_of_fair hw m
  obtain ⟨t, ht, -⟩ := runStream_next w s k
  obtain ⟨u, hu, -⟩ := runCycle_spec (w k) t
  exact ⟨k, t, u, hk, hrst, htick, ht, (runStream_succ ht).trans hu, ledsShow_runCycle_of_refresh hu hrst htick⟩

/-- Settles O53: STATE and the LEDs are those of NONE at power-on, and a cycle without a sample keeps both, a reset
included. -/
theorem noSamplesNoLight : Obligations.NoSamplesNoLight := by
  intro w c other hnone k
  exact runStream_keeps (P := fun t => t.state = ButtonState.none.code ∧ LedsShow t ButtonState.none.code)
    (s := powerOn c other) rfl ⟨rfl, ledsShow_powerOn c other⟩
    (fun j u _ hj hu hrun ⟨hs, hl⟩ => state_ledsShow_runCycle_kept hrun (hnone j u hj hu) (fun _ => rfl) hs hl)
    k (Nat.zero_le k)

end Sys2Proof.Machine
end
